-- ==== Sys2Proof/Word.lean ====
section
/-! DEFINITION. The words of the block: the byte of every field and buffer entry (R7), the two port words (R66, R69). -/

namespace Sys2Proof

/-- A byte: the only unit the block stores, consumes, sends or folds (R7, R53). -/
abbrev Byte := BitVec 8

/-- A command word as it stands on port `cmd` (R66). -/
abbrev CmdWord := BitVec 10

/-- A buffer-port access: the triple of `buf_we`, `buf_addr`, `buf_wdata` as one 17-bit pattern (R69). -/
abbrev BufWord := BitVec 17

end Sys2Proof
end

