-- ==== Sys2Proof/Config.lean ====
section
/-! DEFINITION. What is fixed for one block: the open parameters of 00_scope.md (R1 to R8, decision D32), the fixed numbers, and the one free value. -/

namespace Sys2Proof

/-- The open parameters, each with the document's value as its default (R1, R3, R4, R6; D32).
No port and no command changes them. -/
structure Config where
  /-- `HEADER`, the frame's sentinel byte (R1). -/
  header : Byte := 0xAA
  /-- `BYTE_TIMEOUT`, the longest wait for one byte, in ticks (R3). -/
  byteTimeout : Nat := 5000000
  /-- `FRAME_DEADLINE`, the whole-frame deadline, in ticks (R4). -/
  frameDeadline : Nat := 10000000
  /-- `TIMER_W`, the width of each timer in bits (R6). -/
  timerW : Nat := 24
deriving DecidableEq, Repr

/-- The constraints of R3, R4 and R6: `1 <= BYTE_TIMEOUT <= 2^TIMER_W - 1` and `FRAME_DEADLINE <= 2^TIMER_W - 2`
(the differences are those of the integers, so `2 <= 2^TIMER_W`). -/
abbrev Config.wf (c : Config) : Prop :=
  1 ≤ c.byteTimeout ∧ c.byteTimeout + 1 ≤ 2 ^ c.timerW ∧ c.frameDeadline + 2 ≤ 2 ^ c.timerW

/-- What buffer entry `a` holds while nothing has written it since power-up: a FREE VALUE (R37, U1).
It has no body: nothing can evaluate it. It depends on the address alone, because two reads of the same unwritten
entry agree and reset does not change it. -/
opaque Config.powerUpByte : Nat → Byte

/-- `MAX_PAYLOAD` (R2), equal to `BUF_CAP` (R8). -/
abbrev maxPayload : Nat := 255

/-- `OVERHEAD`: header, length and checksum (R2). -/
abbrev overhead : Nat := 3

/-- `MAX_FRAME` (R2). -/
abbrev maxFrame : Nat := maxPayload + overhead

end Sys2Proof
end

