-- ==== Sys2Proof/Machine/State.lean ====
section
/-! DEFINITION. The state of the block and of its two neighbours: every register of 10_state.md, the buffer, the two streams of R54, and what the environment does at the coming ticks. -/

namespace Sys2Proof.Machine

/-- The twelve states of `st` (R10). -/
inductive St where
  | idle | awaitHeader | readLength | readPayload | readChecksum | validate | done | failed
  | txHeader | txLength | txPayload | txChecksum
deriving DecidableEq, Repr

/-- The 4-bit code of a state (R70); codes 12 to 15 name nothing (U10). -/
def St.code : St → BitVec 4
  | .idle => 0 | .awaitHeader => 1 | .readLength => 2 | .readPayload => 3 | .readChecksum => 4 | .validate => 5
  | .done => 6 | .failed => 7 | .txHeader => 8 | .txLength => 9 | .txPayload => 10 | .txChecksum => 11

/-- The eight values of `status` (R16, R68). -/
inductive Status where
  | none | ok | invalidLength | headerMismatch | lengthInvalid | timeout | checksumMismatch | transportWriteFailed
deriving DecidableEq, Repr

/-- The 3-bit code of a status (R68). -/
def Status.code : Status → BitVec 3
  | .none => 0 | .ok => 1 | .invalidLength => 2 | .headerMismatch => 3 | .lengthInvalid => 4 | .timeout => 5
  | .checksumMismatch => 6 | .transportWriteFailed => 7

/-- The six failures (R170 to R175). -/
inductive Failure where
  | invalidLength | headerMismatch | lengthInvalid | timeout | checksumMismatch | transportWriteFailed
deriving DecidableEq, Repr

/-- The payload buffer: the entries written since power-up, as (address, byte) pairs. An entry that is not listed is
one nothing has written (R37, U1). -/
abbrev Memory := List Host.Cell

/-- What the host and the Transport do at one tick: the ten inputs of R22 to R28. A port nobody uses in this tick is
`none`; the values on its wires are then read by no rule (U12). -/
structure Drive where
  /-- `rst` (R22). -/
  rst : Bool := false
  /-- `cmd_valid` = 1 with this word on `cmd`; `none` is `cmd_valid` = 0 (R23). -/
  cmdPort : Option CmdWord := none
  /-- The buffer-port triple of a host that uses the port in this tick (R24, R69). `none` is `buf_we` = 0 with nobody
  looking at `buf_rdata`. With `buf_we` = 1 a look at `buf_rdata` (R89, vector B5) has no place here: DESIGN CHOICE, log
  entry 4. -/
  bufPort : Option BufWord := none
  /-- The Transport loses the unread bytes it holds, before the arrivals below (it breaks promise (a) of R59). -/
  rxLose : Bool := false
  /-- Bytes that reach the Transport's receive side by this tick, in order (R25, R74 `RX@t`). -/
  rxArrive : List Byte := []
  /-- `tx_ready`, the Transport's answer Ok (R28). -/
  txReady : Bool := false
  /-- `tx_err`, the Transport's answer Error (R28). -/
  txErr : Bool := false
  /-- In a reset tick only: whether the Transport counts the byte it answers Ok as taken. The block ignores the answer,
  and R202 says that the Transport may count it; either choice is the environment's (log entry 3). -/
  txCounts : Bool := true
deriving DecidableEq, Repr

/-- The environment that does nothing. -/
def Drive.idle : Drive := {}

structure State where
  /-- The configuration, R1 to R8. Not state of the block (R21): no step changes it. -/
  cfg : Config
  /-- State register (R10). -/
  st : St
  /-- Destination capacity of the receive in progress (R11). -/
  cap : Byte
  /-- Length field of the frame in progress (R12). -/
  len : Byte
  /-- Payload index (R13). -/
  idx : Byte
  /-- Checksum accumulator (R14). -/
  csum : Byte
  /-- Received checksum byte (R15). -/
  rxChk : Byte
  /-- Result of the last command (R16). -/
  status : Status
  /-- Length result of the last command (R17). -/
  resLen : Byte
  /-- Payload buffer (R18). -/
  buf : Memory
  /-- Ticks the current byte wait has lasted without a byte (R19), a TIMER_W-bit value. -/
  byteTimer : Nat
  /-- Ticks since the length byte was accepted, saturating (R20), a TIMER_W-bit value. -/
  frameTimer : Nat
  /-- The receive stream: the Transport's unread bytes, oldest first (R46, R54). -/
  rxStream : List Byte
  /-- The transmit stream: the bytes handed to the Transport so far, oldest first (R48, R54). -/
  txStream : List Byte
  /-- The MODEL's own field: what the host last sampled on `buf_rdata` in a tick with `buf_we` = 0 (R74, R89, log
  entry 4). -/
  hostRdata : Byte
  /-- The MODEL's own field: what the environment does at the coming ticks, the next one first. After its end the
  environment is silent. -/
  script : List Drive
deriving DecidableEq, Repr

/-- Why the block stops: never. The step function is total, for every state and every input vector (R80,
93_implementation_defined.md section 1), so this type has no constructor; nobody raises a fault. -/
inductive Fault
deriving DecidableEq, Repr

/-- Why the model has no meaning to give. -/
inductive Refusal where
  /-- Raised by an arm of exec whose instruction has no meaning yet; safe. No arm raises it. -/
  | notModelled (mnemonic : String)
deriving DecidableEq, Repr

/-- The machine right after reset (R37, R200, R201), with the default configuration (R1, R3, R4, R6), no buffer entry
written (R37, D22) and a silent environment. -/
def State.reset : State where
  cfg := {}
  st := .idle
  cap := 0
  len := 0
  idx := 0
  csum := 0
  rxChk := 0
  status := .none
  resLen := 0
  buf := []
  byteTimer := 0
  frameTimer := 0
  rxStream := []
  txStream := []
  hostRdata := 0
  script := []

end Sys2Proof.Machine
end

