-- ==== Sys2Proof/Machine/Ops.lean ====
section
/-! DEFINITION. The named operations every meaning is written over: the buffer, the timers' widths, the checksum accumulator, failure entry and its return, reset, and the two streams. -/

namespace Sys2Proof.Machine

/-! ## Kinds of states (00_scope.md section 6, R70) -/

/-- Idle, Done and Failed: the states that take a command (R30). -/
def St.resting : St → Bool
  | .idle | .done | .failed => true
  | .awaitHeader | .readLength | .readPayload | .readChecksum | .validate
  | .txHeader | .txLength | .txPayload | .txChecksum => false

/-- The four states that take a byte (R31). -/
def St.reading : St → Bool
  | .awaitHeader | .readLength | .readPayload | .readChecksum => true
  | .idle | .validate | .done | .failed | .txHeader | .txLength | .txPayload | .txChecksum => false

/-- The four states that offer a byte (R32). -/
def St.sending : St → Bool
  | .txHeader | .txLength | .txPayload | .txChecksum => true
  | .idle | .awaitHeader | .readLength | .readPayload | .readChecksum | .validate | .done | .failed => false

/-! ## The payload buffer (R40, R45) -/

/-- The canonical form from a given lowest address on: addresses strictly rising, none beyond 254. -/
def Memory.wfFrom : Nat → Memory → Bool
  | _, [] => true
  | lo, (a, _) :: rest => decide (lo ≤ a ∧ a ≤ 254) && Memory.wfFrom (a + 1) rest

/-- The canonical form of the buffer: strictly rising addresses, each of an implemented entry. -/
def Memory.wf (m : Memory) : Bool := Memory.wfFrom 0 m

/-- What was last written to an entry, if anything was since power-up. -/
def memLookup : Memory → Nat → Option Byte
  | [], _ => none
  | (b, v) :: rest, a => if a = b then some v else memLookup rest a

/-- The list with entry `a` holding `v`, its addresses kept strictly rising. -/
def memInsert : Memory → Nat → Byte → Memory
  | [], a, v => [(a, v)]
  | (b, w) :: rest, a, v =>
    if a < b then (a, v) :: (b, w) :: rest
    else if a = b then (a, v) :: rest
    else (b, w) :: memInsert rest a v

/-- `MemRead(a, 1)`: the entry, a free value where nothing has written it (R37, R40, U1); 0x00 at address 255,
which names nothing (R45, R54). -/
def memRead (m : Memory) (a : Nat) : Byte :=
  if a ≤ 254 then (memLookup m a).getD (Config.powerUpByte a) else 0

/-- `MemWrite(a, 1, v)` (R40); a write to address 255 is dropped (R45, R54). -/
def memWrite (m : Memory) (a : Nat) (v : Byte) : Memory :=
  if a ≤ 254 then memInsert m a v else m

/-! ## The timers' widths (R6, R19, R20, R114) -/

/-- `t + 1` on `w` bits. -/
def bumpTimer (w t : Nat) : Nat := (t + 1) % 2 ^ w

/-- `sat_w(t)` = min(t, 2^w - 1) (00_scope.md section 5). -/
def satTimer (w t : Nat) : Nat := min t (2 ^ w - 1)

/-! ## The checksum generator (R103, R104) -/

/-- `csum_clr` (R103). -/
def State.csumClr (s : State) : State := { s with csum := 0 }

/-- `csum_acc(b)` (R104). -/
def State.csumAcc (b : Byte) (s : State) : State := { s with csum := s.csum ^^^ b }

/-! ## Failure entry and return (R178, R181, R82) -/

/-- `code(E)`: the status a failure leaves (R68, R170 to R175). -/
def Failure.status : Failure → Status
  | .invalidLength => .invalidLength
  | .headerMismatch => .headerMismatch
  | .lengthInvalid => .lengthInvalid
  | .timeout => .timeout
  | .checksumMismatch => .checksumMismatch
  | .transportWriteFailed => .transportWriteFailed

/-- `fail(E)`, the block's way of taking an exception: `st`, `status` and `res_len` are written, nothing is saved
and nothing else changes (R178). It is applied last, so it replaces any other assignment to the three. -/
def State.fail (e : Failure) (s : State) : State := { s with st := .failed, status := e.status, resLen := 0 }

/-- What every accepted command does first: the previous result is gone. This is also the way out of a failure, for
there is no return instruction and nothing was saved (R82, R181). -/
def State.beginCommand (s : State) : State := { s with status := .none, resLen := 0 }

/-- The end of a command in Done (R136, R155). -/
def State.finish (s : State) : State := { s with st := .done, status := .ok, resLen := s.len }

/-! ## Reset (R37, R200) -/

/-- Every register at its reset value; `buf` is not changed (R200). -/
def State.resetRegisters (s : State) : State :=
  { s with
    st := .idle, cap := 0, len := 0, idx := 0, csum := 0, rxChk := 0, status := .none, resLen := 0,
    byteTimer := 0, frameTimer := 0 }

/-! ## The streams and the environment (R46, R48, R54, R59) -/

/-- What the environment does at the coming tick. -/
def State.drive (s : State) : Drive := s.script.headD Drive.idle

/-- The tick's environment acts before the block samples its inputs: the Transport loses or gains unread bytes
(R25, R59, R74), and the script moves on. -/
def State.arrive (s : State) : State :=
  { s with
    rxStream := (if s.drive.rxLose then [] else s.rxStream) ++ s.drive.rxArrive
    script := s.script.tail }

/-- The oldest unread byte leaves the receive stream (R46). -/
def State.consume (s : State) : State := { s with rxStream := s.rxStream.tail }

/-- The Transport takes a byte (R48). -/
def State.sendByte (b : Byte) (s : State) : State := { s with txStream := s.txStream ++ [b] }

end Sys2Proof.Machine
end

