-- ==== Sys2Proof/Machine/Flags.lean ====
section
/-! DEFINITION. The outputs of the block as functions of the registers (10_state.md section 3). -/

namespace Sys2Proof.Machine

/-- `cmd_ready`: 1 in Idle, Done and Failed (R30). -/
def State.cmdReady (s : State) : Bool := s.st.resting

/-- `busy` = not `cmd_ready` (R29, R30). -/
def State.busy (s : State) : Bool := !s.cmdReady

/-- `rx_ready`: 1 in the four reading states (R31). -/
def State.rxReady (s : State) : Bool := s.st.reading

/-- `tx_valid`: 1 in the four sending states (R32). -/
def State.txValid (s : State) : Bool := s.st.sending

/-- `tx_data` (R33). -/
def State.txData (s : State) : Byte :=
  match s.st with
  | .txHeader => s.cfg.header
  | .txLength => s.len
  | .txPayload => memRead s.buf s.idx.toNat
  | .txChecksum => s.csum
  | .idle | .awaitHeader | .readLength | .readPayload | .readChecksum | .validate | .done | .failed => 0

/-- `buf_rdata` while `buf_addr` is `a`: the entry when the block is not busy, 0x00 while it is (R35, R45). -/
def State.bufRdata (s : State) (a : Byte) : Byte := if s.busy then 0 else memRead s.buf a.toNat

/-- The eight outputs of the port table (10_state.md section 2), with their widths. -/
structure Outputs where
  /-- `cmd_ready` (R30). -/
  cmdReady : Bool
  /-- `busy` (R29). -/
  busy : Bool
  /-- `status`, the register's 3-bit code (R34). -/
  status : BitVec 3
  /-- `res_len`, the register (R34). -/
  resLen : Byte
  /-- `buf_rdata` (R35). -/
  bufRdata : Byte
  /-- `rx_ready` (R31). -/
  rxReady : Bool
  /-- `tx_valid` (R32). -/
  txValid : Bool
  /-- `tx_data` (R33). -/
  txData : Byte
deriving DecidableEq, Repr

/-- All outputs of a tick: functions of the registers at its start, and of `buf_addr` for `buf_rdata` (R36). -/
def State.outputs (s : State) (bufAddr : Byte) : Outputs where
  cmdReady := s.cmdReady
  busy := s.busy
  status := s.status.code
  resLen := s.resLen
  bufRdata := s.bufRdata bufAddr
  rxReady := s.rxReady
  txValid := s.txValid
  txData := s.txData

end Sys2Proof.Machine
end

