-- ==== Sys2Proof/Machine/BufPort.lean ====
section
/-! DEFINITION. The meanings of the two buffer-port accesses (40_step_and_commands.md section 5). -/

namespace Sys2Proof.Machine

/-- A host write: it lands when the block is not busy, and is dropped silently otherwise (R88). -/
def State.hostWrite (a v : Byte) (s : State) : State :=
  if s.busy then s else { s with buf := memWrite s.buf a.toNat v }

/-- The host samples `buf_rdata` with `buf_addr` = `a` (R89, R74). -/
def State.hostSample (a : Byte) (s : State) : State := { s with hostRdata := s.bufRdata a }

/-- `BUFWR a, v` (R88). -/
def execBufwr (a v : Byte) (s : State) : Host.Outcome State Fault Refusal := .next (s.hostWrite a v)

/-- `BUFRD a` (R89); `buf_wdata` is ignored (R69), and nothing of the block changes. -/
def execBufrd (a _ignored : Byte) (s : State) : Host.Outcome State Fault Refusal := .next (s.hostSample a)

end Sys2Proof.Machine
end

