-- ==== Sys2Proof/Machine/Operands.lean ====
section
/-! DEFINITION. Operand assembly of the two commands: the 9-bit argument `n` is used as an unsigned number (R7, R67). -/

namespace Sys2Proof.Machine

/-- The range of `RECV`'s argument: only 0 is out of range (R67, R72, R83; D8). -/
def recvInRange (n : BitVec 9) : Bool := decide (n.toNat ≠ 0)

/-- The capacity of a `RECV`: `min(n, 255)`, 8 bits (R67, R84). -/
def recvCapacity (n : BitVec 9) : Byte := BitVec.ofNat 8 (min n.toNat maxPayload)

/-- The range of `SEND`'s argument: 1 to 255 (R67, R72, R85). -/
def sendInRange (n : BitVec 9) : Bool := decide (1 ≤ n.toNat ∧ n.toNat ≤ maxPayload)

/-- The length of a `SEND`: `n[7:0]` (R67, R86). -/
def sendLength (n : BitVec 9) : Byte := n.extractLsb' 0 8

end Sys2Proof.Machine
end

