-- ==== Sys2Proof/Machine/Command.lean ====
section
/-! DEFINITION. The meanings of the two commands (40_step_and_commands.md sections 1 to 4). -/

namespace Sys2Proof.Machine

/-- The start of a receive with capacity `cap` (R84). -/
def State.startReceive (cap : Byte) (s : State) : State :=
  { s.csumClr with
    cap := cap, idx := 0, len := 0, byteTimer := 0, frameTimer := 0, st := .awaitHeader }

/-- The start of a send of `len` bytes (R86). -/
def State.startSend (len : Byte) (s : State) : State :=
  { s.csumClr with len := len, idx := 0, st := .txHeader }

/-- `RECV n` accepted (R82, R83, R84). -/
def State.acceptRecv (n : BitVec 9) (s : State) : State :=
  if recvInRange n then s.beginCommand.startReceive (recvCapacity n) else s.beginCommand.fail .invalidLength

/-- `SEND n` accepted (R82, R85, R86). -/
def State.acceptSend (n : BitVec 9) (s : State) : State :=
  if sendInRange n then s.beginCommand.startSend (sendLength n) else s.beginCommand.fail .invalidLength

/-- `RECV n` offered on the command port at a tick: accepted when `cmd_ready` = 1 (R81), ignored while `busy` = 1
(R90). -/
def execRecv (n : BitVec 9) (s : State) : Host.Outcome State Fault Refusal :=
  .next (if s.cmdReady then s.acceptRecv n else s)

/-- `SEND n` offered on the command port at a tick: accepted when `cmd_ready` = 1 (R81), ignored while `busy` = 1
(R90). -/
def execSend (n : BitVec 9) (s : State) : Host.Outcome State Fault Refusal :=
  .next (if s.cmdReady then s.acceptSend n else s)

end Sys2Proof.Machine
end

