-- ==== Sys2Proof/Syntax.lean ====
section
/-! DEFINITION. The instructions: one constructor per row of opcode_table.json (R73), and the encoded forms they have on the block's ports. -/

namespace Sys2Proof

/-- The five rows of the opcode table. -/
inductive Instr where
  /-- `RECV n`: start a receive with destination capacity `n` (R66, R83, R84). -/
  | recv (n : BitVec 9)
  /-- `SEND n`: send the first `n` buffer entries as one frame (R66, R85, R86). -/
  | send (n : BitVec 9)
  /-- `BUFWR a, v`: host write of `v` to buffer entry `a` (R69, R88). -/
  | bufwr (a v : Byte)
  /-- `BUFRD a`: host read of buffer entry `a`; `ignored` is what `buf_wdata` happens to hold (R69, R89). -/
  | bufrd (a ignored : Byte)
  /-- `FRAME`: one frame on the wire (R60). The length byte is the number of payload bytes; the checksum byte is an
  operand of its own, because a receiver meets frames whose checksum is wrong (R71, R136). -/
  | frame (payload : List Byte) (checksum : Byte)
deriving DecidableEq, Repr

/-- Where an instruction is met, and as what: the three formats CMD, BUFPORT and WIRE of the opcode table (R73). -/
inductive Encoded where
  /-- A word on the command port (R66). -/
  | cmd (w : CmdWord)
  /-- A triple on the buffer port (R69). -/
  | bufPort (w : BufWord)
  /-- Bytes in wire order, first byte first (R60). -/
  | wire (bytes : List Byte)
deriving DecidableEq, Repr

end Sys2Proof
end

