-- ==== Sys2Proof/WellFormed.lean ====
section
/-! DEFINITION. Which terms of Instr have an encoding. -/

namespace Sys2Proof

/-- A command or a buffer-port access has an encoding for every operand (R69, R72).
A frame has one when its payload is no longer than the length byte can say (R2, R62). -/
def Instr.wellFormed : Instr → Bool
  | .recv _ => true
  | .send _ => true
  | .bufwr _ _ => true
  | .bufrd _ _ => true
  | .frame payload _ => decide (payload.length ≤ maxPayload)

/-- The width of an instruction's encoding in bits, as the opcode table gives it. -/
def Instr.width : Instr → Nat
  | .recv _ => 10
  | .send _ => 10
  | .bufwr _ _ => 17
  | .bufrd _ _ => 17
  | .frame payload _ => 8 * (payload.length + overhead)

end Sys2Proof
end

