-- ==== Sys2Proof/Decode.lean ====
section
/-! DEFINITION. The decoder, total on every word and every byte sequence, and the encoder (30_encoding.md). -/

namespace Sys2Proof

/-- Why a byte sequence on the wire is no frame. Command and buffer-port words are never refused (R72). -/
inductive DecodeReject where
  /-- No byte to decode. -/
  | empty
  /-- The first byte is not the header (R61). -/
  | headerMismatch (b : Byte)
  /-- The sequence ends before the checksum byte that its length byte asks for (R65). -/
  | truncated
deriving DecidableEq, Repr

/-- A command word: bit 9 is the operation, bits 8:0 the operand (R66, R67). -/
def decodeCmd (w : CmdWord) : Instr :=
  if w.getLsbD 9 then .send (w.extractLsb' 0 9) else .recv (w.extractLsb' 0 9)

/-- A buffer-port triple: bit 16 is `buf_we`, bits 15:8 `buf_addr`, bits 7:0 `buf_wdata` (R69). -/
def decodeBufPort (w : BufWord) : Instr :=
  if w.getLsbD 16 then .bufwr (w.extractLsb' 8 8) (w.extractLsb' 0 8)
  else .bufrd (w.extractLsb' 8 8) (w.extractLsb' 0 8)

/-- One frame from the front of a byte sequence, with what follows it: the length byte alone says where it ends
(R60, R61, R65). -/
def decodeWire (header : Byte) : List Byte → Except DecodeReject (Instr × List Byte)
  | [] => .error .empty
  | h :: rest =>
    if h = header then
      match rest with
      | [] => .error .truncated
      | n :: body =>
        match body.drop n.toNat with
        | [] => .error .truncated
        | c :: after => .ok (.frame (body.take n.toNat) c, after)
    else .error (.headerMismatch h)

/-- The decoder: the port says the format, the content says the instruction (R73). -/
def decode (header : Byte) : Encoded → Except DecodeReject (Instr × List Byte)
  | .cmd w => .ok (decodeCmd w, [])
  | .bufPort w => .ok (decodeBufPort w, [])
  | .wire bytes => decodeWire header bytes

/-- The bytes of a frame in wire order (R60). -/
def frameBytes (header : Byte) (payload : List Byte) (checksum : Byte) : List Byte :=
  header :: BitVec.ofNat 8 payload.length :: (payload ++ [checksum])

/-- The encoder (R60, R66, R69). -/
def encode (header : Byte) : Instr → Encoded
  | .recv n => .cmd (0#1 ++ n)
  | .send n => .cmd (1#1 ++ n)
  | .bufwr a v => .bufPort (1#1 ++ a ++ v)
  | .bufrd a i => .bufPort (0#1 ++ a ++ i)
  | .frame payload checksum => .wire (frameBytes header payload checksum)

/-- The number of bits an encoded form occupies. -/
def Encoded.width : Encoded → Nat
  | .cmd _ => 10
  | .bufPort _ => 17
  | .wire bytes => 8 * bytes.length

/-- The first `k` bytes of a number, the least significant first. -/
def bytesOfNat : Nat → Nat → List Byte
  | 0, _ => []
  | k + 1, w => BitVec.ofNat 8 w :: bytesOfNat k (w / 256)

/-- The header the opcode table prints in FRAME's row (R1, R61). -/
def tableHeader : Byte := 0xAA

/-- The frame that begins with the given bytes and holds 0 in every byte after them, up to its own end. -/
def zeroExtendedFrame (front : List Byte) : List Byte :=
  let all := front ++ List.replicate maxFrame 0
  all.take (((all.drop 1).headD 0).toNat + overhead)

/-- Which port a word of the opcode table belongs to. The table numbers the words of three separate ports
(R73), so the number of its bits chooses: 10 bits are a command, 17 a buffer-port triple, whole bytes a frame. Two
bytes that start with the header are read as the frame row's pattern, the more specific of the two that match
(DESIGN CHOICE, log entry 10); on the command port itself `decodeCmd` reads all 1024 words. -/
def tableEncoded (nbits w : Nat) : Option Encoded :=
  let k := (nbits + 7) / 8
  let asFrame := Encoded.wire (zeroExtendedFrame (bytesOfNat k w))
  if w % 256 = tableHeader.toNat ∧ (k = 1 ∨ k = 2) then some asFrame
  else if k = 2 ∧ w < 2 ^ 10 then some (.cmd (BitVec.ofNat 10 w))
  else if k = 3 ∧ w < 2 ^ 17 then some (.bufPort (BitVec.ofNat 17 w))
  else if 3 ≤ k then some asFrame
  else none

/-- The instruction the decoder reads from a word of the opcode table, numbered as the table numbers it. -/
def decodeTableWord (nbits w : Nat) : Option Instr :=
  match tableEncoded nbits w with
  | none => none
  | some e =>
    match decode tableHeader e with
    | .ok (i, _) => some i
    | .error _ => none

end Sys2Proof
end

