-- ==== Sys2Proof/Machine/Codec.lean ====
section
/-! DEFINITION. PacketCodec as mathematics: the checksum, the frame encoder, the validity predicate (41_packetcodec.md). -/

namespace Sys2Proof.Machine

/-- `checksum(h, n, p)`: the exclusive-or of the header, the length and the first `n` payload bytes (R100). -/
def checksum (h n : Byte) (p : List Byte) : Byte :=
  (p.take n.toNat).foldl (fun c b => c ^^^ b) (0 ^^^ h ^^^ n)

/-- The XOR-fold of a list of bytes, from 0x00 (00_scope.md glossary, R110). -/
def xorFold (l : List Byte) : Byte := l.foldl (fun c b => c ^^^ b) 0

/-- `encode(p, n)`: the frame of the first `n` bytes of `p`, or InvalidLength (R106, R107). -/
def encodeFrame (header : Byte) (p : List Byte) (n : Nat) : Except Failure (List Byte) :=
  if n < 1 ∨ maxPayload < n then .error .invalidLength
  else .ok (frameBytes header (p.take n) (checksum header (BitVec.ofNat 8 n) p))

/-- `valid(h, n, p, c)`: the received checksum byte equals the recomputed one (R108). -/
def validFrame (h n : Byte) (p : List Byte) (c : Byte) : Bool := decide (c = checksum h n p)

end Sys2Proof.Machine
end

