-- ==== Sys2Proof/Machine/Receiver.lean ====
section
/-! DEFINITION. FrameReceiver: one definition per arm of the reading states and of Validate (42_framereceiver.md). -/

namespace Sys2Proof.Machine

/-- `frame_timer` advances, saturating at TIMER_W bits (R20, R123). -/
def State.advanceFrameTimer (s : State) : State :=
  { s with frameTimer := satTimer s.cfg.timerW (s.frameTimer + 1) }

/-- `wait_tick()`: Timeout at the BYTE_TIMEOUT-th empty tick of a wait (R122). -/
def State.waitTick (s : State) : State :=
  if s.byteTimer + 1 ≥ s.cfg.byteTimeout then s.fail .timeout
  else { s with byteTimer := bumpTimer s.cfg.timerW s.byteTimer }

/-- The wait arm of a reading state (R125, R128, R130, R132); in ReadPayload and ReadChecksum `frame_timer` advances
as well, whether or not the wait fails (R123). -/
def State.waitArm (s : State) : State :=
  match s.st with
  | .readPayload | .readChecksum => s.waitTick.advanceFrameTimer
  | .awaitHeader | .readLength => s.waitTick
  | .idle | .validate | .done | .failed | .txHeader | .txLength | .txPayload | .txChecksum => s

/-- AwaitHeader, byte arm (R124). -/
def State.awaitHeaderByte (b : Byte) (s : State) : State :=
  if b = s.cfg.header then { s.csumAcc b with byteTimer := 0, st := .readLength }
  else s.fail .headerMismatch

/-- ReadLength, byte arm (R126, R127). -/
def State.readLengthByte (b : Byte) (s : State) : State :=
  if s.cap < b then s.fail .lengthInvalid
  else
    { s.csumAcc b with
      len := b, idx := 0, byteTimer := 0, frameTimer := 0
      st := if b = 0 then .readChecksum else .readPayload }

/-- ReadPayload, byte arm: the byte is stored, folded and counted in every case, then the deadline is tested
(R129, R134). -/
def State.readPayloadByte (b : Byte) (s : State) : State :=
  let taken := ({ s.csumAcc b with buf := memWrite s.buf s.idx.toNat b, idx := s.idx + 1 }).advanceFrameTimer
  if taken.frameTimer > s.cfg.frameDeadline then taken.fail .timeout
  else { taken with byteTimer := 0, st := if taken.idx = s.len then .readChecksum else .readPayload }

/-- ReadChecksum, byte arm (R131, R123). -/
def State.readChecksumByte (b : Byte) (s : State) : State :=
  { s.advanceFrameTimer with rxChk := b, st := .validate }

/-- The byte arm of a reading state (R121). -/
def State.byteArm (b : Byte) (s : State) : State :=
  match s.st with
  | .awaitHeader => s.awaitHeaderByte b
  | .readLength => s.readLengthByte b
  | .readPayload => s.readPayloadByte b
  | .readChecksum => s.readChecksumByte b
  | .idle | .validate | .done | .failed | .txHeader | .txLength | .txPayload | .txChecksum => s

/-- Validate (R136). -/
def State.validateArm (s : State) : State :=
  if s.csum = s.rxChk then s.finish else s.fail .checksumMismatch

/-- One tick of a reading state: the byte arm if the Transport holds a byte, else the wait arm; the byte wins a tie
(R121). -/
def State.readArm (s : State) : State :=
  match s.rxStream with
  | [] => s.waitArm
  | b :: _ => s.consume.byteArm b

/-- A receive whose Transport offers the given bytes as soon as each can be taken, and then nothing: one byte a tick
while the block asks for one, then the tick of Validate if it was reached; what was not asked for stays in the
Transport (R121, R135, R139, R50). -/
def State.receiveAll : List Byte → State → State
  | [], s =>
    let s' := { s with rxStream := [] }
    if s.st = .validate then s'.validateArm else s'
  | b :: bs, s =>
    if s.rxReady then State.receiveAll bs (s.byteArm b)
    else
      let s' := { s with rxStream := b :: bs }
      if s.st = .validate then s'.validateArm else s'

end Sys2Proof.Machine
end

