-- ==== Sys2Proof/Machine/Wire.lean ====
section
/-! DEFINITION. The meaning of FRAME: one frame arriving on the receive stream (30_encoding.md section 1, R139). -/

namespace Sys2Proof.Machine

/-- `FRAME`: the bytes of the frame arrive behind the Transport's unread bytes, and the block takes what it asks for,
one byte a tick and each as soon as it is asked for, until it asks for no more; Validate gives its verdict; bytes not
asked for stay in the Transport (R46, R50, R60, R121 to R136, R139). Bytes that come later than that are the step
function's business, tick by tick. -/
def execFrame (payload : List Byte) (checksum : Byte) (s : State) : Host.Outcome State Fault Refusal :=
  .next (s.receiveAll (s.rxStream ++ frameBytes s.cfg.header payload checksum))

end Sys2Proof.Machine
end

