-- ==== Sys2Proof/Machine/Dispatch.lean ====
section
/-! DEFINITION. One arm per instruction of the opcode table. -/

namespace Sys2Proof.Machine

/-- The meaning of an instruction at the port it is met on. -/
def exec (i : Instr) (s : State) : Host.Outcome State Fault Refusal :=
  match i with
  | .recv n => Sys2Proof.Machine.execRecv n s
  | .send n => Sys2Proof.Machine.execSend n s
  | .bufwr a v => Sys2Proof.Machine.execBufwr a v s
  | .bufrd a ignored => Sys2Proof.Machine.execBufrd a ignored s
  | .frame payload checksum => Sys2Proof.Machine.execFrame payload checksum s

end Sys2Proof.Machine
end

