-- ==== Sys2Proof/Machine/Sender.lean ====
section
/-! DEFINITION. FrameSender: the four sending states (43_framesender.md). -/

namespace Sys2Proof.Machine

/-- TxHeader, byte sent (R152). -/
def State.headerSent (s : State) : State := { s.csumAcc s.cfg.header with st := .txLength }

/-- TxLength, byte sent (R153). -/
def State.lengthSent (s : State) : State := { s.csumAcc s.len with st := .txPayload }

/-- TxPayload, byte sent (R154). -/
def State.payloadSent (s : State) : State :=
  { s.csumAcc (memRead s.buf s.idx.toNat) with
    idx := s.idx + 1
    st := if s.idx + 1 = s.len then .txChecksum else .txPayload }

/-- TxChecksum, byte sent (R155). -/
def State.checksumSent (s : State) : State := s.finish

/-- The state's own rule once the byte on `tx_data` is sent (R152 to R155). -/
def State.sentArm (s : State) : State :=
  match s.st with
  | .txHeader => s.headerSent
  | .txLength => s.lengthSent
  | .txPayload => s.payloadSent
  | .txChecksum => s.checksumSent
  | .idle | .awaitHeader | .readLength | .readPayload | .readChecksum | .validate | .done | .failed => s

/-- The common arm of every sending state: `tx_err` beats `tx_ready`, and with neither the block waits (R151). -/
def State.sendArm (txReady txErr : Bool) (s : State) : State :=
  if txErr then s.fail .transportWriteFailed
  else if txReady then (s.sendByte s.txData).sentArm
  else s

end Sys2Proof.Machine
end

