-- ==== Sys2Proof/Machine/Tick.lean ====
section
/-! DEFINITION. One tick of the block, in the parts that R80 gives it. -/

namespace Sys2Proof.Machine

/-- One effect of a tick after another. -/
def andThen (o : Host.Outcome State Fault Refusal) (f : State → Host.Outcome State Fault Refusal) :
    Host.Outcome State Fault Refusal :=
  match o with
  | .next s => f s
  | .fault r => .fault r
  | .refused r => .refused r

/-- The buffer port at a tick with `rst` = 0: the triple is decoded and run (R69, R80, R88, R89).
DESIGN CHOICE, unsafe (log entry 4): a BUFWR leaves `hostRdata` as it was. The old value that R89 shows on `buf_rdata`
in that tick (vector B5) is `State.outputs` before the step; no Drive says that the host looked at it. -/
def bufPortTick (d : Drive) (s : State) : Host.Outcome State Fault Refusal :=
  match d.bufPort with
  | none => .next s
  | some w => exec (decodeBufPort w) s

/-- The command port of a resting state at a tick with `rst` = 0: an offered word is decoded and run, and with no
word nothing changes (R80, R81, R87). -/
def commandTick (d : Drive) (s : State) : Host.Outcome State Fault Refusal :=
  match d.cmdPort with
  | none => .next s
  | some w => exec (decodeCmd w) s

/-- The arm of a busy state; `cmd_valid` and `cmd` are not read (R80, R90). -/
def State.busyArm (d : Drive) (s : State) : State :=
  match s.st with
  | .awaitHeader | .readLength | .readPayload | .readChecksum => s.readArm
  | .validate => s.validateArm
  | .txHeader | .txLength | .txPayload | .txChecksum => s.sendArm d.txReady d.txErr
  | .idle | .done | .failed => s

/-- The arm chosen by `st` (R80). -/
def stateArm (d : Drive) (s : State) : Host.Outcome State Fault Refusal :=
  if s.cmdReady then commandTick d s else .next (s.busyArm d)

/-- What the two streams and the host see of a reset tick: the outputs do not depend on `rst` (R36), so a byte under
the receive handshake is gone (R202), an answered byte counts as taken if the Transport chooses so (R202), and a read
of the buffer port shows the entry. -/
def State.resetHandshakes (d : Drive) (s : State) : State :=
  let read :=
    match d.bufPort with
    | none => s
    | some w =>
      match decodeBufPort w with
      | .bufrd a _ => s.hostSample a
      | .recv _ | .send _ | .bufwr _ _ | .frame _ _ => s
  let taken := if s.rxReady then read.consume else read
  if s.txValid && d.txReady && !d.txErr && d.txCounts then taken.sendByte s.txData else taken

/-- A tick with `rst` = 1: no buffer write, no command, no arm; every register takes its reset value (R80, R180,
R200). -/
def State.resetTick (d : Drive) (s : State) : State := (s.resetHandshakes d).resetRegisters

/-- One tick, after the environment of the tick has acted (R80). -/
def tick (d : Drive) (s : State) : Host.Outcome State Fault Refusal :=
  if d.rst then .next (s.resetTick d) else andThen (bufPortTick d s) (stateArm d)

/-- The state with its next instruction where the next tick meets it. A command or a buffer-port access is put on its
port in a tick that uses no other port, and a busy block is first put to rest; a frame is put on an otherwise empty
receive stream of a block whose receive waits for it with the capacity of `RECV 255` (log entry 9). -/
def State.placeEncoded (e : Encoded) (s : State) : State :=
  let rested := { s with st := if s.cmdReady then s.st else .idle }
  match e with
  | .cmd w => { rested with script := { Drive.idle with cmdPort := some w } :: s.script.tail }
  | .bufPort w => { rested with script := { Drive.idle with bufPort := some w } :: s.script.tail }
  | .wire bytes =>
    { s.acceptRecv 255 with rxStream := bytes, script := Drive.idle :: s.script.tail }

end Sys2Proof.Machine
end

