-- ==== Sys2Proof/Machine/Step.lean ====
section
/-! DEFINITION. The step function: one tick of `clk` (R80). -/

namespace Sys2Proof.Machine

/-- One tick: the environment acts, then the block (R80). -/
def step (s : State) : Host.Outcome State Fault Refusal := tick s.drive s.arrive

/-- The state whose very next tick meets the instruction of a word of the opcode table. A word that belongs to no row
leaves the state as it is. -/
def State.withFetchWord (s : State) (nbits w : Nat) : State :=
  match tableEncoded nbits w with
  | none => s
  | some e => s.placeEncoded e

end Sys2Proof.Machine
end

