-- ==== Sys2Proof/Safety.lean ====
section
/-! DEFINITION. The terms in which claims speak of runs: the run itself, the invariants of R38, the state graph of R92 and R176, the big-step form of R139, and the streams of a script. -/

namespace Sys2Proof.Machine

/-- `k` ticks from `s`. It is the host's own run of the machine (`run_eq_core_run`). -/
def run : Nat → State → Host.Outcome State Fault Refusal
  | 0, s => .next s
  | k + 1, s => andThen (step s) (run k)

/-- The first `k` buffer entries, as the sender reads them (R43). -/
def bufBytes (m : Memory) (k : Nat) : List Byte := (List.range k).map (memRead m)

/-! ## What a tick without a landing host write shows the block's arm -/

/-- What the host has sampled on `buf_rdata` once the tick's buffer port has been served (R69, R89). -/
def State.hostSeen (d : Drive) (s : State) : Byte :=
  match d.bufPort with
  | none => s.hostRdata
  | some w => if w.getLsbD 16 then s.hostRdata else s.bufRdata (w.extractLsb' 8 8)

/-- The state the arm of a busy tick starts from: the environment has acted, a host write is dropped, a host read has
been answered (R80, R88, R89). -/
def State.sampled (s : State) : State := { s.arrive with hostRdata := s.arrive.hostSeen s.drive }

/-! ## Scripts -/

/-- None of the next `k` ticks is a reset tick. -/
def noReset (k : Nat) (ds : List Drive) : Prop := ∀ d ∈ ds.take k, d.rst = false

/-- The Transport takes the byte it is offered at each of the next `k` ticks, and none of them is a reset tick
(R74 `TXOK`). -/
def takesAll (k : Nat) (ds : List Drive) : Prop :=
  k ≤ ds.length ∧ ∀ d ∈ ds.take k, d.rst = false ∧ d.txReady = true ∧ d.txErr = false

/-- The host and the Transport neither reset the block nor take back an unread byte (promise (a) of R59). -/
def noLoss (ds : List Drive) : Prop := ∀ d ∈ ds, d.rst = false ∧ d.rxLose = false

/-- The receive stream as a receive meets it: each byte with the number of empty ticks before the tick that takes it,
for a receive that asks for a byte at every tick. `unread` are the bytes the Transport holds, the script brings the
others, and `waited` empty ticks have gone by since the last byte was taken. So byte `j` is taken at
`c_j = max(a_j, c_(j-1) + 1)` (R139). -/
def metStream : (waited : Nat) → (unread : List Byte) → List Drive → List (Nat × Byte)
  | _, [], [] => []
  | waited, b :: rest, [] => (waited, b) :: rest.map (fun c => (0, c))
  | waited, unread, d :: ds =>
    match unread ++ d.rxArrive with
    | [] => metStream (waited + 1) [] ds
    | b :: rest => (waited, b) :: metStream 0 rest ds

/-- The ticks it takes to take these bytes one after the other: for each the empty ticks before it, and its own
(R139). -/
def takingTicks (met : List (Nat × Byte)) : Nat := (met.map (fun x => x.1 + 1)).sum

/-- The first `n + 3` bytes a receive meets, a frame with `n` payload bytes, come in time: no byte is waited for as
long as BYTE_TIMEOUT ticks, and the last payload byte is taken at most FRAME_DEADLINE ticks after the length byte (R122,
R129, R139). -/
def inTime (c : Config) (n : Nat) (met : List (Nat × Byte)) : Prop :=
  (∀ x ∈ met.take (n + 3), x.1 < c.byteTimeout) ∧ takingTicks ((met.drop 2).take n) ≤ c.frameDeadline

/-- The bytes that a script still brings. -/
def arrivals (ds : List Drive) : List Byte := ds.flatMap (fun d => d.rxArrive)

/-! ## The invariants of R38 -/

/-- The XOR-fold of the header, the length and the first `idx` buffer entries (R38 (i), (j)). -/
def State.foldSoFar (s : State) : Byte := xorFold (s.cfg.header :: s.len :: bufBytes s.buf s.idx.toNat)

/-- R38, clause by clause. -/
structure State.RegistersAgree (s : State) : Prop where
  a : s.status = .ok ↔ s.st = .done
  b : 2 ≤ s.status.code.toNat ↔ s.st = .failed
  c : s.status = .none ↔ s.st = .idle ∨ s.busy = true
  d : s.resLen ≠ 0 → s.st = .done
  e : s.st = .readPayload → s.idx.toNat < s.len.toNat ∧ s.len.toNat ≤ s.cap.toNat
  f : s.st = .txPayload → s.idx.toNat < s.len.toNat ∧ 1 ≤ s.len.toNat
  g : s.st = .readChecksum ∨ s.st = .validate ∨ s.st = .txChecksum → s.idx = s.len
  h : s.st.reading = true → s.byteTimer + 1 ≤ s.cfg.byteTimeout
  i : (s.st = .awaitHeader → s.csum = 0) ∧ (s.st = .readLength → s.csum = s.cfg.header) ∧
      (s.st = .readPayload ∨ s.st = .readChecksum ∨ s.st = .validate → s.csum = s.foldSoFar)
  j : (s.st = .txHeader → s.csum = 0) ∧ (s.st = .txLength → s.csum = s.cfg.header) ∧
      (s.st = .txPayload ∨ s.st = .txChecksum → s.csum = s.foldSoFar)

/-- The invariant every step keeps: R38, the legal configuration (R3, R4, R6), the buffer's canonical form (R40), the
timers' widths (R19, R20), `cap >= 1` in a receive (R11), and a send's length of at least 1 with an index that starts
at 0 (R13, R86). -/
structure State.Inv (s : State) : Prop where
  legal : s.cfg.wf
  registers : s.RegistersAgree
  buffer : Memory.wf s.buf = true
  timers : s.byteTimer < 2 ^ s.cfg.timerW ∧ s.frameTimer < 2 ^ s.cfg.timerW
  capacity : s.st.reading = true → 1 ≤ s.cap.toNat
  sendLength : s.st.sending = true → 1 ≤ s.len.toNat
  sendStart : s.st = .txHeader ∨ s.st = .txLength → s.idx = 0

/-! ## The state graph (R92) and the sources of failures (R176) -/

/-- The transitions of R92 at a tick with `rst` = 0. -/
def St.mayBecome : St → St → Bool
  | .idle, t => t = .awaitHeader || t = .failed || t = .txHeader || t = .idle
  | .done, t => t = .awaitHeader || t = .failed || t = .txHeader || t = .done
  | .failed, t => t = .awaitHeader || t = .failed || t = .txHeader
  | .awaitHeader, t => t = .readLength || t = .failed || t = .awaitHeader
  | .readLength, t => t = .readPayload || t = .readChecksum || t = .failed || t = .readLength
  | .readPayload, t => t = .readPayload || t = .readChecksum || t = .failed
  | .readChecksum, t => t = .validate || t = .failed || t = .readChecksum
  | .validate, t => t = .done || t = .failed
  | .txHeader, t => t = .txLength || t = .failed || t = .txHeader
  | .txLength, t => t = .txPayload || t = .failed || t = .txLength
  | .txPayload, t => t = .txPayload || t = .txChecksum || t = .failed
  | .txChecksum, t => t = .done || t = .failed || t = .txChecksum

/-- Which failure a busy state can raise at a tick, and when (R176): `byte` is the byte consumed in the tick, if one
is, and `txErr` the Transport's answer. -/
def State.mayRaise (s : State) (byte : Option Byte) (txErr : Bool) : Failure → Prop
  | .invalidLength => False
  | .headerMismatch => s.st = .awaitHeader ∧ ∃ b, byte = some b ∧ b ≠ s.cfg.header
  | .lengthInvalid => s.st = .readLength ∧ ∃ b, byte = some b ∧ s.cap.toNat < b.toNat
  | .timeout =>
    (s.st.reading = true ∧ byte = none ∧ s.cfg.byteTimeout ≤ s.byteTimer + 1) ∨
    (s.st = .readPayload ∧ byte ≠ none ∧ s.cfg.frameDeadline < satTimer s.cfg.timerW (s.frameTimer + 1))
  | .checksumMismatch => s.st = .validate ∧ s.csum ≠ s.rxChk
  | .transportWriteFailed => s.st.sending = true ∧ txErr = true

/-! ## The receive as one function (R139) -/

/-- The outcome of a receive: the status, the length result, the tick whose step assigns the terminal state (the
command is accepted at tick 0), the number of bytes consumed and the number of payload bytes among them stored. -/
structure Verdict where
  status : Status
  resLen : Byte
  tick : Nat
  consumed : Nat
  stored : Nat
deriving DecidableEq, Repr

/-- Steps 3 to 5 of R139. `remaining` payload bytes are still to come, `now` is the tick that consumed the last byte,
`start` the tick L, `stored` and `fold` what has been stored and folded. -/
def payloadVerdict (c : Config) (len : Byte) (start : Nat) :
    (remaining now stored : Nat) → (fold : Byte) → List (Nat × Byte) → Verdict
  | _, now, stored, _, [] => ⟨.timeout, 0, now + c.byteTimeout, stored + 2, stored⟩
  | 0, now, stored, fold, (g, b) :: _ =>
    if c.byteTimeout ≤ g then ⟨.timeout, 0, now + c.byteTimeout, stored + 2, stored⟩
    else if b = fold then ⟨.ok, len, now + g + 2, stored + 3, stored⟩
    else ⟨.checksumMismatch, 0, now + g + 2, stored + 3, stored⟩
  | remaining + 1, now, stored, fold, (g, b) :: rest =>
    if c.byteTimeout ≤ g then ⟨.timeout, 0, now + c.byteTimeout, stored + 2, stored⟩
    else if c.frameDeadline < now + g + 1 - start then ⟨.timeout, 0, now + g + 1, stored + 3, stored + 1⟩
    else payloadVerdict c len start remaining (now + g + 1) (stored + 1) (fold ^^^ b) rest

/-- R139 for a receive with capacity `cap` accepted at tick 0, over the bytes that come, each with the number of
empty ticks before it. -/
def receiveVerdict (c : Config) (cap : Byte) : List (Nat × Byte) → Verdict
  | [] => ⟨.timeout, 0, c.byteTimeout, 0, 0⟩
  | (g, b) :: rest =>
    if c.byteTimeout ≤ g then ⟨.timeout, 0, c.byteTimeout, 0, 0⟩
    else if b ≠ c.header then ⟨.headerMismatch, 0, g + 1, 1, 0⟩
    else
      match rest with
      | [] => ⟨.timeout, 0, g + 1 + c.byteTimeout, 1, 0⟩
      | (g', n) :: rest' =>
        if c.byteTimeout ≤ g' then ⟨.timeout, 0, g + 1 + c.byteTimeout, 1, 0⟩
        else if cap.toNat < n.toNat then ⟨.lengthInvalid, 0, g + g' + 2, 2, 0⟩
        else payloadVerdict c n (g + g' + 2) n.toNat (g + g' + 2) 0 (c.header ^^^ n) rest'

end Sys2Proof.Machine
end

