-- ==== Sys2Proof/Certificates/Slice0/Obligations.lean ====
section
/-! DEFINITION. The statements about the block, in the order of the spec's files. Each docstring names the rule it formalises; where a clause rests on a choice of the model, it names the log entry. What the environment does at the coming ticks is the script in State, and after its end nobody does anything (log entry 1); exec of a FRAME is the whole prompt receive (log entry 8). -/

open Sys2Proof Sys2Proof.Machine

/-! ## Encodings (30_encoding.md) -/

/-- Decoding the encoding of a well-formed instruction gives it back, with nothing left over: no bit of an operand is
dropped (R60, R66, R69). -/
def Obligations.DecodeOfEncode : Prop :=
  ∀ (header : Byte) (i : Instr), i.wellFormed = true → decode header (encode header i) = .ok (i, [])

/-- Whatever the decoder reads is well formed, and its encoding is exactly what was read: every word has one meaning
(R60, R66, R69, R72). -/
def Obligations.EncodeOfDecode : Prop :=
  ∀ (header : Byte) (e : Encoded) (i : Instr) (rest : List Byte), decode header e = .ok (i, rest) →
    i.wellFormed = true ∧
      match e with
      | .cmd _ => rest = [] ∧ encode header i = e
      | .bufPort _ => rest = [] ∧ encode header i = e
      | .wire bytes => ∃ front, bytes = front ++ rest ∧ encode header i = .wire front

/-- Words written out in the spec decode to the instructions they are written for (95_test_vectors.md M3, M10, M12,
P1, P2, K9). -/
def Obligations.SampleWordsDecode : Prop :=
  decodeCmd 0x010 = .recv 16 ∧ decodeCmd 0x202 = .send 2 ∧ decodeCmd 0x300 = .send 256 ∧
  decodeBufPort 0b10000000001001111 = .bufwr 0 0x4F ∧ decodeBufPort 0b00000000100000000 = .bufrd 1 0 ∧
  decodeWire 0xAA [0xAA, 0x02, 0x4F, 0x4B, 0xAC] = .ok (.frame [0x4F, 0x4B] 0xAC, [])

/-- The command word: bit 9 is the operation, bits 8:0 the unsigned operand, and each of the 1024 words is one of the
two commands (R66). -/
def Obligations.CommandWordLayout : Prop :=
  ∀ (header : Byte) (w : CmdWord), ∃ n : BitVec 9, n.toNat = w.toNat % 512 ∧
    decode header (.cmd w) = .ok (if w.toNat < 512 then .recv n else .send n, [])

/-- The buffer-port triple: bit 16 is `buf_we`, bits 15:8 `buf_addr`, bits 7:0 `buf_wdata` (R69). -/
def Obligations.BufferPortLayout : Prop :=
  ∀ (header : Byte) (w : BufWord), ∃ a v : Byte,
    a.toNat = w.toNat / 256 % 256 ∧ v.toNat = w.toNat % 256 ∧
    decode header (.bufPort w) = .ok (if 65536 ≤ w.toNat then .bufwr a v else .bufrd a v, [])

/-- A frame ends where its length byte says, whatever follows it, and no proper prefix of it is a frame (R60, R65). -/
def Obligations.FrameEndsWhereItsLengthSays : Prop :=
  ∀ (header c : Byte) (p rest : List Byte), p.length ≤ 255 →
    (frameBytes header p c).length = p.length + 3 ∧
    decode header (.wire (frameBytes header p c ++ rest)) = .ok (.frame p c, rest) ∧
    ∀ k, k < p.length + 3 →
      decode header (.wire ((frameBytes header p c).take k)) = .error (if k = 0 then .empty else .truncated)

/-- A byte sequence whose first byte differs from the header in any bit is no frame (R61). -/
def Obligations.WrongHeaderIsNoFrame : Prop :=
  ∀ (header b : Byte) (rest : List Byte), b ≠ header → decode header (.wire (b :: rest)) = .error (.headerMismatch b)

/-! ## The checksum (41_packetcodec.md) -/

/-- The checksum is the XOR-fold of the header, the length and the first `n` payload bytes; bytes at index `n` and
beyond do not matter (R100). -/
def Obligations.ChecksumIsTheFold : Prop :=
  (∀ (h n : Byte) (p : List Byte), n.toNat ≤ p.length →
    checksum h n p = h ^^^ n ^^^ xorFold (p.take n.toNat) ∧
    ∀ q : List Byte, q.take n.toNat = p.take n.toNat → checksum h n q = checksum h n p) ∧
  checksum 0xAA 0x02 [0x4F, 0x4B] = 0xAC ∧ checksum 0xAA 0 [] = 0xAA

/-- Each bit of the checksum is the parity of that bit over the header, the length and the payload bytes, each
counted once: no carry between bit positions (R101, R102, R112). -/
def Obligations.ChecksumIsParityPerBit : Prop :=
  ∀ (h n : Byte) (p : List Byte) (k : Nat), p.length = n.toNat →
    (checksum h n p).getLsbD k = decide ((h :: n :: p).countP (fun b => b.getLsbD k) % 2 = 1)

/-- The XOR of all bytes of an encoded frame is 0x00, and a byte sequence of a frame's shape is valid exactly when the
XOR of all its bytes is 0x00 (R110). -/
def Obligations.WholeFrameFoldIsZero : Prop :=
  (∀ (h : Byte) (p f : List Byte) (n : Nat), n ≤ p.length → encodeFrame h p n = .ok f → xorFold f = 0) ∧
  (∀ (h n c : Byte) (p : List Byte), p.length = n.toNat →
    (validFrame h n p c = true ↔ xorFold (h :: n :: (p ++ [c])) = 0))

/-- `encode` refuses a length of 0 and every length above 255, and otherwise gives the `n + 3` bytes of the frame
(R106). -/
def Obligations.EncodeRange : Prop :=
  ∀ (h : Byte) (p : List Byte) (n : Nat), n ≤ p.length →
    (n < 1 ∨ 255 < n → encodeFrame h p n = .error .invalidLength) ∧
    (1 ≤ n ∧ n ≤ 255 → ∃ f, encodeFrame h p n = .ok f ∧ f.length = n + 3 ∧
      f = [h, BitVec.ofNat 8 n] ++ p.take n ++ [checksum h (BitVec.ofNat 8 n) p])

/-- A change whose XOR over the frame is not 0x00 makes a valid frame invalid, the number of bytes folded being the
same; one flipped bit of the header, of the length, of a payload byte or of the checksum is such a change (R111). -/
def Obligations.ChecksumSeesEveryOddChange : Prop :=
  ∀ (h n c : Byte) (p : List Byte), p.length = n.toNat → validFrame h n p c = true →
    (∀ (h' n' c' : Byte) (p' : List Byte), p'.length = p.length →
      xorFold (h :: n :: (p ++ [c])) ^^^ xorFold (h' :: n' :: (p' ++ [c'])) ≠ 0 →
      c' ≠ h' ^^^ n' ^^^ xorFold p') ∧
    (∀ k, k < 8 →
      validFrame (h ^^^ BitVec.twoPow 8 k) n p c = false ∧
      c ≠ h ^^^ (n ^^^ BitVec.twoPow 8 k) ^^^ xorFold p ∧
      validFrame h n p (c ^^^ BitVec.twoPow 8 k) = false ∧
      ∀ i, i < p.length → validFrame h n (p.set i (p.getD i 0 ^^^ BitVec.twoPow 8 k)) c = false)

/-- What the checksum does not see: any reordering of the payload bytes (R112 (b)). -/
def Obligations.PayloadOrderIsUndetected : Prop :=
  ∀ (h n : Byte) (p q : List Byte), p.length = n.toNat → List.Perm p q → checksum h n p = checksum h n q

/-- After `csum_clr`, folding the header, the length and each payload byte once, in any order, leaves the checksum in
the accumulator, and nothing else of the block has changed (R103, R104, R105). -/
def Obligations.AccumulatorComputesChecksum : Prop :=
  ∀ (s : State) (h n : Byte) (p order : List Byte), n.toNat ≤ p.length →
    List.Perm order (h :: n :: p.take n.toNat) →
    order.foldl (fun t b => t.csumAcc b) s.csumClr = { s with csum := checksum h n p }

/-! ## Outputs (10_state.md section 3) -/

/-- The outputs as the tables of R29 to R35 give them, `status` with the eight codes of R68; `buf_rdata` alone depends
on an input of the tick, the address (R36). -/
def Obligations.OutputsFollowTheState : Prop :=
  ∀ (s : State) (a : Byte),
    let o := s.outputs a
    (o.busy = true ↔ s.st ≠ .idle ∧ s.st ≠ .done ∧ s.st ≠ .failed) ∧ o.cmdReady = !o.busy ∧
    (o.rxReady = true ↔ s.st = .awaitHeader ∨ s.st = .readLength ∨ s.st = .readPayload ∨ s.st = .readChecksum) ∧
    (o.txValid = true ↔ s.st = .txHeader ∨ s.st = .txLength ∨ s.st = .txPayload ∨ s.st = .txChecksum) ∧
    (s.st = .txHeader → o.txData = s.cfg.header) ∧ (s.st = .txLength → o.txData = s.len) ∧
    (s.st = .txPayload → o.txData = memRead s.buf s.idx.toNat) ∧ (s.st = .txChecksum → o.txData = s.csum) ∧
    (o.txValid = false → o.txData = 0) ∧
    (s.status = .none → o.status = 0) ∧ (s.status = .ok → o.status = 1) ∧
    (s.status = .invalidLength → o.status = 2) ∧ (s.status = .headerMismatch → o.status = 3) ∧
    (s.status = .lengthInvalid → o.status = 4) ∧ (s.status = .timeout → o.status = 5) ∧
    (s.status = .checksumMismatch → o.status = 6) ∧ (s.status = .transportWriteFailed → o.status = 7) ∧
    o.status = s.status.code ∧ o.resLen = s.resLen ∧
    (o.busy = false ∧ a.toNat ≤ 254 → o.bufRdata = memRead s.buf a.toNat) ∧
    (o.busy = true ∨ a.toNat = 255 → o.bufRdata = 0)

/-! ## Commands and the buffer port (40_step_and_commands.md) -/

/-- `RECV n` with `n` at least 1, accepted in a resting state, starts a receive with capacity min(n, 255) and changes
nothing else; the receive's outputs follow (R84). -/
def Obligations.RecvStartsReceive : Prop :=
  ∀ (n : BitVec 9) (s : State), s.cmdReady = true → 1 ≤ n.toNat →
    let t : State :=
      { s with
        cap := BitVec.ofNat 8 (min n.toNat 255), csum := 0, idx := 0, len := 0, byteTimer := 0, frameTimer := 0
        status := .none, resLen := 0, st := .awaitHeader }
    exec (.recv n) s = .next t ∧ t.busy = true ∧ t.cmdReady = false ∧ t.rxReady = true

/-- `RECV 0`, accepted in a resting state, ends at once in Failed with InvalidLength and changes nothing else (R83). -/
def Obligations.RecvZeroFails : Prop :=
  ∀ s : State, s.cmdReady = true →
    let t : State := { s with st := .failed, status := .invalidLength, resLen := 0 }
    exec (.recv 0) s = .next t ∧ t.busy = false ∧ t.rxReady = false ∧ t.status.code = 2

/-- `SEND n` with `n` from 1 to 255, accepted in a resting state, starts a send and changes nothing else; the header
is on `tx_data` from the next tick (R86). -/
def Obligations.SendStartsSend : Prop :=
  ∀ (n : BitVec 9) (s : State), s.cmdReady = true → 1 ≤ n.toNat → n.toNat ≤ 255 →
    let t : State :=
      { s with
        len := BitVec.ofNat 8 n.toNat, idx := 0, csum := 0, status := .none, resLen := 0, st := .txHeader }
    exec (.send n) s = .next t ∧ t.busy = true ∧ t.cmdReady = false ∧ t.txValid = true ∧ t.txData = s.cfg.header

/-- `SEND 0` and `SEND n` with `n` from 256 on, accepted in a resting state, end at once in Failed with InvalidLength
and change nothing else (R85). -/
def Obligations.SendOutOfRangeFails : Prop :=
  ∀ (n : BitVec 9) (s : State), s.cmdReady = true → n.toNat = 0 ∨ 256 ≤ n.toNat →
    let t : State := { s with st := .failed, status := .invalidLength, resLen := 0 }
    exec (.send n) s = .next t ∧ t.busy = false ∧ t.txValid = false ∧ t.status.code = 2

/-- While `busy` = 1 a command has no effect, and the tick does not depend on what the command port offers (R90). -/
def Obligations.CommandsAreIgnoredWhileBusy : Prop :=
  ∀ s : State, s.busy = true →
    (∀ n : BitVec 9, exec (.recv n) s = .next s ∧ exec (.send n) s = .next s) ∧
    ∀ (d : Drive) (ds : List Drive) (offered : Option CmdWord),
      step { s with script := { d with cmdPort := offered } :: ds } = step { s with script := d :: ds }

/-- `BUFWR a, v`: when the block is not busy and `a` is at most 254 the entry holds `v` and every other entry what it
held; otherwise nothing changes. No register changes in either case (R88, R45). -/
def Obligations.HostWriteLands : Prop :=
  ∀ (a v : Byte) (s : State),
    exec (.bufwr a v) s = .next (if s.busy = false ∧ a.toNat ≤ 254 then { s with buf := memWrite s.buf a.toNat v } else s) ∧
    ∀ t, exec (.bufwr a v) s = .next t → ∀ x,
      memRead t.buf x = if s.busy = false ∧ a.toNat ≤ 254 ∧ x = a.toNat then v else memRead s.buf x

/-- `BUFRD a`: the host samples the entry when the block is not busy and `a` is at most 254, 0x00 otherwise; nothing
of the block changes, whatever `buf_wdata` holds (R89, R35). The field that holds the sample is the model's (log
entry 4). -/
def Obligations.HostReadReturns : Prop :=
  ∀ (a ignored : Byte) (s : State),
    exec (.bufrd a ignored) s =
      .next { s with hostRdata := if s.busy = false ∧ a.toNat ≤ 254 then memRead s.buf a.toNat else 0 }

/-- The three resting states take a command alike: what the command leaves does not depend on which of them it is
accepted in, nor on the last result (R87, R181). -/
def Obligations.RestingStatesBehaveAlike : Prop :=
  ∀ (s : State) (st' : St) (last : Status) (r : Byte) (n : BitVec 9), s.st.resting = true → st'.resting = true →
    exec (.recv n) { s with st := st', status := last, resLen := r } = exec (.recv n) s ∧
    exec (.send n) { s with st := st', status := last, resLen := r } = exec (.send n) s

/-- With no command and no reset a resting block keeps every register for any number of ticks, so its result stays;
only the buffer, the host's sample, the Transport's unread bytes and the script can change (R87, R137, R138). -/
def Obligations.RestingBlockKeepsItsResult : Prop :=
  ∀ (k : Nat) (s t : State), s.st.resting = true → (∀ d ∈ s.script.take k, d.rst = false ∧ d.cmdPort = none) →
    run k s = .next t →
    t = { s with buf := t.buf, hostRdata := t.hostRdata, rxStream := t.rxStream, script := t.script }

/-- A step runs what its ports decode to: on a resting block the buffer-port access and then the command, each by
exec; on a busy block the buffer-port access and then the arm of the state. The environment has acted first
(`State.arrive`). Runs of frames: `FrameIsARunOfTicks` (R80, R81). -/
def Obligations.StepRunsDecodedInstruction : Prop :=
  ∀ s : State, s.drive.rst = false →
    (s.busy = false → s.drive.bufPort = none → s.drive.cmdPort = none → step s = .next s.arrive) ∧
    (s.busy = true → s.drive.bufPort = none → step s = .next (s.arrive.busyArm s.drive)) ∧
    (∀ w i rest, s.busy = false → s.drive.bufPort = none → s.drive.cmdPort = some w →
      decode s.cfg.header (.cmd w) = .ok (i, rest) → step s = exec i s.arrive) ∧
    (∀ w i rest, s.drive.bufPort = some w → decode s.cfg.header (.bufPort w) = .ok (i, rest) →
      (s.busy = false → s.drive.cmdPort = none → step s = exec i s.arrive) ∧
      (s.busy = true → step s = andThen (exec i s.arrive) (fun t => .next (t.busyArm s.drive))) ∧
      ∀ w' i' rest', s.busy = false → s.drive.cmdPort = some w' → decode s.cfg.header (.cmd w') = .ok (i', rest') →
        step s = andThen (exec i s.arrive) (exec i'))

/-- A host write and an accepted `SEND` in one tick both take effect, and the entry the send will read is the new one
(R56, R88, D28). -/
def Obligations.WriteAndSendInOneTick : Prop :=
  ∀ (s : State) (a v : Byte) (n : BitVec 9), s.drive.rst = false → s.busy = false →
    s.drive.bufPort = some (1#1 ++ a ++ v) → s.drive.cmdPort = some (1#1 ++ n) → 1 ≤ n.toNat → n.toNat ≤ 255 →
    ∃ t, step s = .next t ∧ t.st = .txHeader ∧ t.len.toNat = n.toNat ∧
      ∀ x, memRead t.buf x = if a.toNat ≤ 254 ∧ x = a.toNat then v else memRead s.buf x

/-! ## The receiver, tick by tick (42_framereceiver.md) -/

/-- AwaitHeader, byte arm: the header starts the parse, any other byte is HeaderMismatch and is consumed but not
folded (R124). -/
def Obligations.AwaitHeaderTakesAByte : Prop :=
  ∀ (s : State) (b : Byte) (rest : List Byte), s.drive.rst = false → s.st = .awaitHeader →
    s.arrive.rxStream = b :: rest →
    step s = .next
      (if b = s.cfg.header then
        { s.sampled with rxStream := rest, csum := s.csum ^^^ b, byteTimer := 0, st := .readLength }
      else { s.sampled with rxStream := rest, st := .failed, status := .headerMismatch, resLen := 0 })

/-- ReadLength, byte arm: a length above the capacity is LengthInvalid and is consumed but neither folded nor kept; 0
goes to ReadChecksum; any other goes to ReadPayload. The deadline is measured from this tick (R126, R127). -/
def Obligations.ReadLengthTakesAByte : Prop :=
  ∀ (s : State) (b : Byte) (rest : List Byte), s.drive.rst = false → s.st = .readLength →
    s.arrive.rxStream = b :: rest →
    step s = .next
      (if s.cap.toNat < b.toNat then
        { s.sampled with rxStream := rest, st := .failed, status := .lengthInvalid, resLen := 0 }
      else
        { s.sampled with
          rxStream := rest, len := b, csum := s.csum ^^^ b, idx := 0, byteTimer := 0, frameTimer := 0
          st := if b.toNat = 0 then .readChecksum else .readPayload })

/-- ReadPayload, byte arm: the byte is stored, folded and counted in every case; then the deadline is tested with a
strict comparison, and only a byte in time goes on (R129). -/
def Obligations.ReadPayloadTakesAByte : Prop :=
  ∀ (s : State) (b : Byte) (rest : List Byte), s.drive.rst = false → s.st = .readPayload →
    s.idx.toNat < s.len.toNat → s.arrive.rxStream = b :: rest →
    let ft := min (s.frameTimer + 1) (2 ^ s.cfg.timerW - 1)
    let taken : State :=
      { s.sampled with
        rxStream := rest, buf := memWrite s.buf s.idx.toNat b, csum := s.csum ^^^ b
        idx := BitVec.ofNat 8 (s.idx.toNat + 1), frameTimer := ft }
    step s = .next
      (if s.cfg.frameDeadline < ft then { taken with st := .failed, status := .timeout, resLen := 0 }
      else
        { taken with
          byteTimer := 0
          st := if s.idx.toNat + 1 = s.len.toNat then .readChecksum else .readPayload }) ∧
    memRead taken.buf s.idx.toNat = b ∧
    ∀ x, x ≠ s.idx.toNat → memRead taken.buf x = memRead s.buf x

/-- ReadChecksum, byte arm: the byte is kept apart, never folded, and no deadline is tested (R131). -/
def Obligations.ReadChecksumTakesAByte : Prop :=
  ∀ (s : State) (b : Byte) (rest : List Byte), s.drive.rst = false → s.st = .readChecksum →
    s.arrive.rxStream = b :: rest →
    step s = .next
      { s.sampled with
        rxStream := rest, rxChk := b, frameTimer := min (s.frameTimer + 1) (2 ^ s.cfg.timerW - 1), st := .validate }

/-- Validate: one tick, no byte consumed, no timer; equal is Done with the length, unequal is ChecksumMismatch. Where
R38 holds, what is compared is the checksum of the header, the length and the payload in the buffer (R135, R136). -/
def Obligations.ValidateGivesTheVerdict : Prop :=
  ∀ s : State, s.drive.rst = false → s.st = .validate →
    step s = .next
      (if s.csum = s.rxChk then { s.sampled with st := .done, status := .ok, resLen := s.len }
      else { s.sampled with st := .failed, status := .checksumMismatch, resLen := 0 }) ∧
    (s.RegistersAgree → s.csum = checksum s.cfg.header s.len (bufBytes s.buf s.len.toNat))

/-- The wait arm of the four reading states: Timeout at the BYTE_TIMEOUT-th empty tick, else one more tick counted; in
ReadPayload and ReadChecksum the frame timer advances in either case, and nothing else changes (R122, R123). -/
def Obligations.WaitingForAByte : Prop :=
  ∀ s : State, s.drive.rst = false → s.st.reading = true → s.arrive.rxStream = [] →
    s.cfg.wf → s.byteTimer < s.cfg.byteTimeout →
    let ft :=
      if s.st = .readPayload ∨ s.st = .readChecksum then min (s.frameTimer + 1) (2 ^ s.cfg.timerW - 1) else s.frameTimer
    step s = .next
      (if s.cfg.byteTimeout ≤ s.byteTimer + 1 then
        { s.sampled with frameTimer := ft, st := .failed, status := .timeout, resLen := 0 }
      else { s.sampled with frameTimer := ft, byteTimer := s.byteTimer + 1 })

/-- A wait with no byte lasts exactly BYTE_TIMEOUT ticks: until then the state stands and every empty tick is counted,
and the last of them fails with Timeout (R133). -/
def Obligations.WaitWindow : Prop :=
  ∀ (k : Nat) (s t : State), s.cfg.wf → s.st.reading = true → s.byteTimer = 0 → s.rxStream = [] →
    (∀ d ∈ s.script.take k, d.rst = false ∧ d.rxArrive = []) → run k s = .next t →
    (k < s.cfg.byteTimeout → t.st = s.st ∧ t.byteTimer = k ∧ t.status = s.status ∧ t.csum = s.csum ∧ t.buf = s.buf) ∧
    (k = s.cfg.byteTimeout → t.st = .failed ∧ t.status = .timeout ∧ t.resLen = 0 ∧ t.byteTimer + 1 = k)

/-! ## The frame on the wire (R139, R140, R50) -/

/-- The meaning of `FRAME` is a run of ticks: with a silent environment, the block that holds the frame's bytes behind
the Transport's unread bytes reaches the state exec gives, in at most one tick a byte and one for Validate (R80,
R121, R139; that exec gives the whole run is the model's choice, log entry 8). -/
def Obligations.FrameIsARunOfTicks : Prop :=
  ∀ (s : State) (p : List Byte) (c : Byte), s.script = [] → p.length ≤ 255 →
    ∃ k, k ≤ s.rxStream.length + p.length + 4 ∧
      run k { s with rxStream := s.rxStream ++ frameBytes s.cfg.header p c } = exec (.frame p c) s

/-- A frame within the capacity, all of it in time, that a waiting receive meets first: it ends in Done with the
length and the payload in the buffer when the checksum byte is the XOR-fold, and in ChecksumMismatch otherwise. Every
entry beyond the payload keeps its value; a zero-length frame is taken (R139, R140 (d), R127, R44; exec of a frame is
the model's choice, log entry 8). -/
def Obligations.PromptFrameIsReceived : Prop :=
  ∀ (s : State) (p : List Byte) (c : Byte), s.cfg.wf → s.st = .awaitHeader → s.csum = 0 → s.rxStream = [] →
    p.length ≤ s.cap.toNat → p.length ≤ s.cfg.frameDeadline →
    let n := BitVec.ofNat 8 p.length
    let sum := checksum s.cfg.header n p
    ∃ m, exec (.frame p c) s = .next
        { s with
          st := if c = sum then .done else .failed
          status := if c = sum then .ok else .checksumMismatch
          resLen := if c = sum then n else 0
          len := n, idx := n, csum := sum, rxChk := c, byteTimer := 0, frameTimer := p.length + 1, buf := m } ∧
      ∀ x, memRead m x = if x < p.length then p.getD x 0 else memRead s.buf x

/-- A frame longer than the capacity: LengthInvalid after two bytes, with the payload and the checksum byte left in
the Transport and the buffer untouched (R126, R50 (b); exec of a frame is the model's choice, log entry 8). -/
def Obligations.FrameTooLongIsLeftBehind : Prop :=
  ∀ (s : State) (p : List Byte) (c : Byte), s.st = .awaitHeader → s.rxStream = [] → s.cap.toNat < p.length →
    p.length ≤ 255 →
    exec (.frame p c) s = .next
      { s with
        st := .failed, status := .lengthInvalid, resLen := 0, csum := s.csum ^^^ s.cfg.header, byteTimer := 0
        rxStream := p ++ [c] }

/-- A frame within the capacity but with more payload bytes than the deadline has ticks, each byte taken at once: the
byte after the last one in time is still stored and folded, then the receive fails with Timeout and the rest stays in
the Transport (R129, R134, R50 (d); exec of a frame is the model's choice, log entry 8). -/
def Obligations.FramePastTheDeadlineTimesOut : Prop :=
  ∀ (s : State) (p : List Byte) (c : Byte), s.cfg.wf → s.st = .awaitHeader → s.csum = 0 → s.rxStream = [] →
    p.length ≤ s.cap.toNat → s.cfg.frameDeadline < p.length →
    let k := s.cfg.frameDeadline + 1
    ∃ m, exec (.frame p c) s = .next
        { s with
          st := .failed, status := .timeout, resLen := 0
          len := BitVec.ofNat 8 p.length, idx := BitVec.ofNat 8 k
          csum := xorFold (s.cfg.header :: BitVec.ofNat 8 p.length :: p.take k)
          byteTimer := 0, frameTimer := k, buf := m, rxStream := p.drop k ++ [c] } ∧
      ∀ x, memRead m x = if x < k then p.getD x 0 else memRead s.buf x

/-- A frame that comes while the block asks for no byte stays in the Transport whole, and nothing else changes (R31,
R46; exec of a frame is the model's choice, log entry 8). -/
def Obligations.FrameNotAskedForStays : Prop :=
  ∀ (s : State) (p : List Byte) (c : Byte), s.rxReady = false → s.st ≠ .validate →
    exec (.frame p c) s = .next { s with rxStream := s.rxStream ++ frameBytes s.cfg.header p c }

/-- The receive as one function: whatever bytes the Transport holds and gets, and whatever the host does, short of a
reset and of a Transport that takes back unread bytes, the run of an accepted `RECV` reaches at the tick R139 names,
and not before, the outcome R139 gives, with the bytes R50 leaves in the Transport and the buffer R44 describes (log
entry 1 for the script, log entry 2 for the stream). -/
def Obligations.ReceiveFollowsItsVerdict : Prop :=
  ∀ (n : BitVec 9) (s s1 : State), s.cfg.wf → s.cmdReady = true → 1 ≤ n.toNat → exec (.recv n) s = .next s1 →
    noLoss s1.script →
    let v := receiveVerdict s.cfg (BitVec.ofNat 8 (min n.toNat 255)) (metStream 0 s1.rxStream s1.script)
    let bytes := s1.rxStream ++ arrivals s1.script
    (∀ j u, j < v.tick → run j s1 = .next u → u.busy = true) ∧
    ∃ t, run v.tick s1 = .next t ∧
      t.st = (if v.status = .ok then .done else .failed) ∧ t.status = v.status ∧ t.resLen = v.resLen ∧
      t.rxStream ++ arrivals t.script = bytes.drop v.consumed ∧
      ∀ x, memRead t.buf x = if x < v.stored then bytes.getD (x + 2) 0 else memRead s.buf x

/-- The longest receive: whatever the Transport and the host do short of a reset, a receive is over after
3 BYTE_TIMEOUT + FRAME_DEADLINE + 1 ticks (R216). -/
def Obligations.ReceiveEndsInTime : Prop :=
  ∀ (n : BitVec 9) (s s1 : State), s.cfg.wf → s.cmdReady = true → 1 ≤ n.toNat → exec (.recv n) s = .next s1 →
    noReset (3 * s.cfg.byteTimeout + s.cfg.frameDeadline + 1) s1.script →
    ∃ k t, k ≤ 3 * s.cfg.byteTimeout + s.cfg.frameDeadline + 1 ∧ run k s1 = .next t ∧ (t.st = .done ∨ t.st = .failed)

/-- A receive never reads the buffer: two receives that differ in the buffer alone take the same tick (R42). -/
def Obligations.ReceiveDoesNotReadTheBuffer : Prop :=
  ∀ (s t : State) (m : Memory), s.st.reading = true ∨ s.st = .validate → step s = .next t →
    ∃ m', step { s with buf := m } = .next { t with buf := m' } ∧
      ∀ x, (memRead m' x = memRead m x ∧ memRead t.buf x = memRead s.buf x) ∨ memRead m' x = memRead t.buf x

/-! ## The sender (43_framesender.md) -/

/-- A tick of a sending state: `tx_err` ends the send and beats `tx_ready`; a byte taken is the one on `tx_data`,
handed to the Transport, and each state has its own rule; with no answer nothing changes (R151, R152, R153, R154,
R155). -/
def Obligations.SendingTick : Prop :=
  ∀ s : State, s.drive.rst = false → s.st.sending = true →
    (s.drive.txErr = true →
      step s = .next { s.sampled with st := .failed, status := .transportWriteFailed, resLen := 0 }) ∧
    (s.drive.txErr = false → s.drive.txReady = false → step s = .next s.sampled) ∧
    (s.drive.txErr = false → s.drive.txReady = true →
      (s.st = .txHeader →
        step s = .next
          { s.sampled with
            txStream := s.txStream ++ [s.cfg.header], csum := s.csum ^^^ s.cfg.header, st := .txLength }) ∧
      (s.st = .txLength →
        step s = .next
          { s.sampled with txStream := s.txStream ++ [s.len], csum := s.csum ^^^ s.len, st := .txPayload }) ∧
      (s.st = .txPayload → s.idx.toNat < s.len.toNat →
        step s = .next
          { s.sampled with
            txStream := s.txStream ++ [memRead s.buf s.idx.toNat]
            csum := s.csum ^^^ memRead s.buf s.idx.toNat, idx := BitVec.ofNat 8 (s.idx.toNat + 1)
            st := if s.idx.toNat + 1 = s.len.toNat then .txChecksum else .txPayload }) ∧
      (s.st = .txChecksum →
        step s = .next
          { s.sampled with txStream := s.txStream ++ [s.csum], st := .done, status := .ok, resLen := s.len }))

/-- No tick of a busy block changes a buffer entry, but for the entry `idx` in the tick of ReadPayload that takes a
byte: a send writes nothing and a host write is dropped (R41, R42, R43, R88). -/
def Obligations.BusyTickKeepsTheBuffer : Prop :=
  ∀ s t : State, s.busy = true → step s = .next t →
    ∀ x, memRead t.buf x = memRead s.buf x ∨
      (s.st = .readPayload ∧ s.drive.rst = false ∧ x = s.idx.toNat ∧ s.arrive.rxStream.head? = some (memRead t.buf x))

/-- A Transport that takes every byte at once: `SEND n` is in Done after exactly `n + 3` more ticks, having sent the
encoded frame and nothing else, with `res_len` = `n` and the buffer as it was (R156, R158, R219). -/
def Obligations.SendToAReadyTransport : Prop :=
  ∀ (n : BitVec 9) (s s1 : State) (f : List Byte), s.cmdReady = true → exec (.send n) s = .next s1 →
    encodeFrame s.cfg.header (bufBytes s.buf n.toNat) n.toNat = .ok f → takesAll (n.toNat + 3) s1.script →
    (∀ j u, j < n.toNat + 3 → run j s1 = .next u → u.busy = true ∧ u.txStream = s.txStream ++ f.take j) ∧
    ∃ t, run (n.toNat + 3) s1 = .next t ∧ t.st = .done ∧ t.status = .ok ∧ t.resLen.toNat = n.toNat ∧
      t.txStream = s.txStream ++ f ∧ t.buf = s.buf

/-- Whatever the Transport answers and whatever the host does short of a reset: a send that ends in Done has sent
exactly the encoded frame of the buffer as it was accepted, and one that ends in Failed a proper prefix of it; in
between it has sent a prefix, and the buffer never changes (R156). -/
def Obligations.SentBytesFollowTheEncodedFrame : Prop :=
  ∀ (n : BitVec 9) (s s1 t : State) (f : List Byte) (k : Nat), s.cmdReady = true → exec (.send n) s = .next s1 →
    encodeFrame s.cfg.header (bufBytes s.buf n.toNat) n.toNat = .ok f → noReset k s1.script →
    (∀ j u, j < k → run j s1 = .next u → u.busy = true) → run k s1 = .next t →
    t.buf = s.buf ∧ t.st ≠ .idle ∧ t.st.reading = false ∧ t.st ≠ .validate ∧
    ∃ m, m ≤ f.length ∧ t.txStream = s.txStream ++ f.take m ∧ (t.st = .done → m = f.length) ∧
      (t.st = .failed → m < f.length) ∧ (t.busy = true → m < f.length)

/-- Round trip: whatever the Transport answers, the bytes of a `SEND n` that ends in Done, presented unchanged and in
time to a `RECV m` with `m >= n` on a block whose stream holds nothing before them, are received as the payload they
were made from. They may come in any ticks that `inTime` allows, with any bytes behind them; the receive ends at the
tick after the one that takes the last of them, and not before (R113, R139; log entry 1 for the script, log entry 2
for the stream). -/
def Obligations.RoundTrip : Prop :=
  ∀ (n m : BitVec 9) (s s1 t r r1 : State) (k : Nat) (more : List Byte), s.cmdReady = true → 1 ≤ n.toNat →
    n.toNat ≤ 255 → exec (.send n) s = .next s1 → noReset k s1.script →
    (∀ j u, j < k → run j s1 = .next u → u.busy = true) → run k s1 = .next t → t.st = .done →
    r.cfg.wf → r.cfg.header = s.cfg.header → r.cmdReady = true → n.toNat ≤ m.toNat → exec (.recv m) r = .next r1 →
    noLoss r1.script →
    r1.rxStream ++ arrivals r1.script = t.txStream.drop s.txStream.length ++ more →
    inTime r.cfg n.toNat (metStream 0 r1.rxStream r1.script) →
    let last := takingTicks ((metStream 0 r1.rxStream r1.script).take (n.toNat + 3))
    (∀ j u, j < last + 1 → run j r1 = .next u → u.busy = true) ∧
    ∃ u, run (last + 1) r1 = .next u ∧
      u.st = .done ∧ u.status = .ok ∧ u.resLen.toNat = n.toNat ∧ u.rxStream ++ arrivals u.script = more ∧
      (∀ x, x < n.toNat → memRead u.buf x = memRead s.buf x) ∧
      ∀ x, n.toNat ≤ x → memRead u.buf x = memRead r.buf x

/-! ## Failures and reset (60_exceptions.md, 70_reset_and_hazards.md) -/

/-- A busy block fails exactly when R176 says so, and with exactly that failure. -/
def Obligations.FailuresComeFromTheirSources : Prop :=
  ∀ (s t : State) (e : Failure), s.drive.rst = false → s.busy = true → step s = .next t →
    ((t.st = .failed ∧ t.status = e.status) ↔ s.mayRaise s.arrive.rxStream.head? s.drive.txErr e)

/-- Every failure writes `st`, `status` and `res_len`, and nothing else: failure entry saves nothing and clears
nothing, the outputs of a resting block follow, and the code is the failure's own, 2 to 7 (R178, R68). -/
def Obligations.FailureEntryWritesThreeRegisters : Prop :=
  ∀ s : State,
    (∀ e : Failure,
      s.fail e = { s with st := .failed, status := e.status, resLen := 0 } ∧
      (s.fail e).busy = false ∧ (s.fail e).cmdReady = true ∧ (s.fail e).rxReady = false ∧
      (s.fail e).txValid = false) ∧
    (s.fail .invalidLength).status.code = 2 ∧ (s.fail .headerMismatch).status.code = 3 ∧
    (s.fail .lengthInvalid).status.code = 4 ∧ (s.fail .timeout).status.code = 5 ∧
    (s.fail .checksumMismatch).status.code = 6 ∧ (s.fail .transportWriteFailed).status.code = 7

/-- No transition of `st` other than those of the state graph, at a tick with no reset (R92). -/
def Obligations.StateGraphIsComplete : Prop :=
  ∀ s t : State, s.drive.rst = false → step s = .next t → s.st.mayBecome t.st = true

/-- A resting block consumes no byte and sends none, also in the tick that accepts a command; so after a failure the
streams are as they were until a new command is accepted (R179, R46, R48). -/
def Obligations.RestingBlockTouchesNoStream : Prop :=
  ∀ s t : State, s.drive.rst = false → s.st.resting = true → step s = .next t →
    t.rxStream = s.arrive.rxStream ∧ t.txStream = s.txStream

/-- A reset tick: every register at its reset value, the buffer as it was, nothing else in that tick (R200). -/
def Obligations.ResetTick : Prop :=
  ∀ s : State, s.drive.rst = true →
    ∃ t, step s = .next t ∧ t.st = .idle ∧ t.cap = 0 ∧ t.len = 0 ∧ t.idx = 0 ∧ t.csum = 0 ∧ t.rxChk = 0 ∧
      t.status = .none ∧ t.resLen = 0 ∧ t.byteTimer = 0 ∧ t.frameTimer = 0 ∧ t.buf = s.buf ∧ t.cfg = s.cfg ∧
      t.busy = false ∧ t.cmdReady = true ∧ t.rxReady = false ∧ t.txValid = false ∧ t.txData = 0

/-- The streams in a reset tick: a byte under the receive handshake is gone though the block drops it, bytes already
sent stay sent, and a byte answered in that very tick counts as taken if the Transport counts it (R202; the field of
the script that holds the Transport's choice is the model's, log entry 3). -/
def Obligations.ResetTickStreams : Prop :=
  ∀ s t : State, s.drive.rst = true → step s = .next t →
    t.rxStream = (if s.rxReady = true then s.arrive.rxStream.tail else s.arrive.rxStream) ∧
    t.txStream =
      if s.txValid = true ∧ s.drive.txReady = true ∧ s.drive.txErr = false ∧ s.drive.txCounts = true then
        s.txStream ++ [s.txData]
      else s.txStream

/-- Any number of consecutive reset ticks gives the same registers, buffer and transmit stream as one (R201). -/
def Obligations.ConsecutiveResets : Prop :=
  ∀ (k : Nat) (s t u : State), k + 1 ≤ s.script.length → (∀ d ∈ s.script.take (k + 1), d.rst = true) →
    step s = .next u → run (k + 1) s = .next t →
    t = { u with rxStream := t.rxStream, hostRdata := t.hostRdata, script := t.script }

/-! ## The whole machine -/

/-- The step function is total and never changes the configuration (R80, R21). -/
def Obligations.StepIsTotal : Prop := ∀ s : State, ∃ t, step s = .next t ∧ t.cfg = s.cfg

/-- Inputs that no rule reads in a tick do not matter in it: the command port while busy or in a reset tick, the
write side of the buffer port while busy, the Transport's answers while no byte is offered, `tx_ready` under `tx_err`,
and, outside a reset tick, whether the Transport would count an answered byte (U12, R90, R121, R151, R202). -/
def Obligations.UnreadInputsDoNotMatter : Prop :=
  ∀ (s : State) (d d' : Drive) (ds : List Drive), d.rst = d'.rst → d.rxLose = d'.rxLose → d.rxArrive = d'.rxArrive →
    (s.busy = false → d.bufPort = d'.bufPort) → (s.busy = false → d.rst = false → d.cmdPort = d'.cmdPort) →
    (s.busy = true → d.bufPort.any (fun w => !w.getLsbD 16) = d'.bufPort.any (fun w => !w.getLsbD 16)) →
    (s.txValid = true → d.txErr = d'.txErr ∧ (d.txErr = false → d.txReady = d'.txReady)) →
    (s.txValid = true → d.rst = true → d.txCounts = d'.txCounts) →
    step { s with script := d :: ds } = step { s with script := d' :: ds }

/-- The machine right after reset meets the invariant, whatever legal configuration and whatever buffer it has
(R37, R38). -/
def Obligations.ResetMeetsTheInvariant : Prop :=
  State.reset.Inv ∧
  ∀ (c : Config) (m : Memory), c.wf → Memory.wf m = true → ({ State.reset with cfg := c, buf := m } : State).Inv

/-- Every step keeps the invariant: R38 with the legal configuration, the buffer's canonical form, the timers' widths,
the capacity of at least 1 in a receive and the length of at least 1 in a send (R38, R11, R13, R19, R20). -/
def Obligations.StepKeepsTheInvariant : Prop := ∀ s t : State, s.Inv → step s = .next t → t.Inv

/-- R38 at the start of every tick after a reset, for every legal configuration, every buffer and everything the
environment does. -/
def Obligations.RegistersAgreeAfterReset : Prop :=
  ∀ (c : Config) (m : Memory) (unread : List Byte) (script : List Drive) (k : Nat) (t : State),
    c.wf → Memory.wf m = true →
    run k { State.reset with cfg := c, buf := m, rxStream := unread, script := script } = .next t →
    t.RegistersAgree

/-- A host write's own tick still shows the old entry on `buf_rdata`, and the next resting tick the new one (R89, R88,
R35, vector B5). That the old value is not put into the host's sample is the model's choice (log entry 4). -/
def Obligations.WriteTickShowsTheOldEntry : Prop :=
  ∀ (s : State) (a v : Byte), s.drive.rst = false → s.busy = false → s.drive.bufPort = some (1#1 ++ a ++ v) →
    (s.outputs a).bufRdata = (if a.toNat ≤ 254 then memRead s.buf a.toNat else 0) ∧
    ∃ t, step s = .next t ∧ t.hostRdata = s.hostRdata ∧
      (t.busy = false → (t.outputs a).bufRdata = if a.toNat ≤ 254 then v else 0)
end

