-- ==== Sys2Proof/Laws/Codec.lean ====
section
/-! SUPPORT. The XOR-fold and the decoder's pieces. -/

namespace Sys2Proof.Machine

theorem foldl_xor_init (l : List Byte) (x : Byte) :
    l.foldl (fun c b => c ^^^ b) x = x ^^^ l.foldl (fun c b => c ^^^ b) 0 := by
  induction l generalizing x with
  | nil => simp
  | cons a rest ih =>
    simp only [List.foldl_cons]
    rw [ih (x ^^^ a), ih (0 ^^^ a)]
    simp [BitVec.xor_assoc]

@[simp] theorem xorFold_nil : xorFold [] = 0 := rfl

@[simp] theorem xorFold_cons (a : Byte) (l : List Byte) : xorFold (a :: l) = a ^^^ xorFold l := by
  unfold xorFold
  rw [List.foldl_cons, foldl_xor_init]
  simp

@[simp] theorem xorFold_append (l r : List Byte) : xorFold (l ++ r) = xorFold l ^^^ xorFold r := by
  induction l with
  | nil => simp
  | cons a rest ih => simp [ih, BitVec.xor_assoc]

end Sys2Proof.Machine
end

