-- ==== Sys2Proof/Laws/State.lean ====
section
/-! SUPPORT. What each field of State is after each named update. -/

namespace Sys2Proof.Machine

/-! ### fail -/

@[simp] theorem State.fail_cfg (e : Failure) (s : State) : (s.fail e).cfg = s.cfg := rfl
@[simp] theorem State.fail_st (e : Failure) (s : State) : (s.fail e).st = .failed := rfl
@[simp] theorem State.fail_cap (e : Failure) (s : State) : (s.fail e).cap = s.cap := rfl
@[simp] theorem State.fail_len (e : Failure) (s : State) : (s.fail e).len = s.len := rfl
@[simp] theorem State.fail_idx (e : Failure) (s : State) : (s.fail e).idx = s.idx := rfl
@[simp] theorem State.fail_csum (e : Failure) (s : State) : (s.fail e).csum = s.csum := rfl
@[simp] theorem State.fail_rxChk (e : Failure) (s : State) : (s.fail e).rxChk = s.rxChk := rfl
@[simp] theorem State.fail_status (e : Failure) (s : State) : (s.fail e).status = e.status := rfl
@[simp] theorem State.fail_resLen (e : Failure) (s : State) : (s.fail e).resLen = 0 := rfl
@[simp] theorem State.fail_buf (e : Failure) (s : State) : (s.fail e).buf = s.buf := rfl
@[simp] theorem State.fail_byteTimer (e : Failure) (s : State) : (s.fail e).byteTimer = s.byteTimer := rfl
@[simp] theorem State.fail_frameTimer (e : Failure) (s : State) : (s.fail e).frameTimer = s.frameTimer := rfl
@[simp] theorem State.fail_rxStream (e : Failure) (s : State) : (s.fail e).rxStream = s.rxStream := rfl
@[simp] theorem State.fail_txStream (e : Failure) (s : State) : (s.fail e).txStream = s.txStream := rfl
@[simp] theorem State.fail_hostRdata (e : Failure) (s : State) : (s.fail e).hostRdata = s.hostRdata := rfl
@[simp] theorem State.fail_script (e : Failure) (s : State) : (s.fail e).script = s.script := rfl

/-! ### beginCommand -/

@[simp] theorem State.beginCommand_cfg (s : State) : (s.beginCommand).cfg = s.cfg := rfl
@[simp] theorem State.beginCommand_st (s : State) : (s.beginCommand).st = s.st := rfl
@[simp] theorem State.beginCommand_cap (s : State) : (s.beginCommand).cap = s.cap := rfl
@[simp] theorem State.beginCommand_len (s : State) : (s.beginCommand).len = s.len := rfl
@[simp] theorem State.beginCommand_idx (s : State) : (s.beginCommand).idx = s.idx := rfl
@[simp] theorem State.beginCommand_csum (s : State) : (s.beginCommand).csum = s.csum := rfl
@[simp] theorem State.beginCommand_rxChk (s : State) : (s.beginCommand).rxChk = s.rxChk := rfl
@[simp] theorem State.beginCommand_status (s : State) : (s.beginCommand).status = .none := rfl
@[simp] theorem State.beginCommand_resLen (s : State) : (s.beginCommand).resLen = 0 := rfl
@[simp] theorem State.beginCommand_buf (s : State) : (s.beginCommand).buf = s.buf := rfl
@[simp] theorem State.beginCommand_byteTimer (s : State) : (s.beginCommand).byteTimer = s.byteTimer := rfl
@[simp] theorem State.beginCommand_frameTimer (s : State) : (s.beginCommand).frameTimer = s.frameTimer := rfl
@[simp] theorem State.beginCommand_rxStream (s : State) : (s.beginCommand).rxStream = s.rxStream := rfl
@[simp] theorem State.beginCommand_txStream (s : State) : (s.beginCommand).txStream = s.txStream := rfl
@[simp] theorem State.beginCommand_hostRdata (s : State) : (s.beginCommand).hostRdata = s.hostRdata := rfl
@[simp] theorem State.beginCommand_script (s : State) : (s.beginCommand).script = s.script := rfl

/-! ### finish -/

@[simp] theorem State.finish_cfg (s : State) : (s.finish).cfg = s.cfg := rfl
@[simp] theorem State.finish_st (s : State) : (s.finish).st = .done := rfl
@[simp] theorem State.finish_cap (s : State) : (s.finish).cap = s.cap := rfl
@[simp] theorem State.finish_len (s : State) : (s.finish).len = s.len := rfl
@[simp] theorem State.finish_idx (s : State) : (s.finish).idx = s.idx := rfl
@[simp] theorem State.finish_csum (s : State) : (s.finish).csum = s.csum := rfl
@[simp] theorem State.finish_rxChk (s : State) : (s.finish).rxChk = s.rxChk := rfl
@[simp] theorem State.finish_status (s : State) : (s.finish).status = .ok := rfl
@[simp] theorem State.finish_resLen (s : State) : (s.finish).resLen = s.len := rfl
@[simp] theorem State.finish_buf (s : State) : (s.finish).buf = s.buf := rfl
@[simp] theorem State.finish_byteTimer (s : State) : (s.finish).byteTimer = s.byteTimer := rfl
@[simp] theorem State.finish_frameTimer (s : State) : (s.finish).frameTimer = s.frameTimer := rfl
@[simp] theorem State.finish_rxStream (s : State) : (s.finish).rxStream = s.rxStream := rfl
@[simp] theorem State.finish_txStream (s : State) : (s.finish).txStream = s.txStream := rfl
@[simp] theorem State.finish_hostRdata (s : State) : (s.finish).hostRdata = s.hostRdata := rfl
@[simp] theorem State.finish_script (s : State) : (s.finish).script = s.script := rfl

/-! ### csumClr -/

@[simp] theorem State.csumClr_cfg (s : State) : (s.csumClr).cfg = s.cfg := rfl
@[simp] theorem State.csumClr_st (s : State) : (s.csumClr).st = s.st := rfl
@[simp] theorem State.csumClr_cap (s : State) : (s.csumClr).cap = s.cap := rfl
@[simp] theorem State.csumClr_len (s : State) : (s.csumClr).len = s.len := rfl
@[simp] theorem State.csumClr_idx (s : State) : (s.csumClr).idx = s.idx := rfl
@[simp] theorem State.csumClr_csum (s : State) : (s.csumClr).csum = 0 := rfl
@[simp] theorem State.csumClr_rxChk (s : State) : (s.csumClr).rxChk = s.rxChk := rfl
@[simp] theorem State.csumClr_status (s : State) : (s.csumClr).status = s.status := rfl
@[simp] theorem State.csumClr_resLen (s : State) : (s.csumClr).resLen = s.resLen := rfl
@[simp] theorem State.csumClr_buf (s : State) : (s.csumClr).buf = s.buf := rfl
@[simp] theorem State.csumClr_byteTimer (s : State) : (s.csumClr).byteTimer = s.byteTimer := rfl
@[simp] theorem State.csumClr_frameTimer (s : State) : (s.csumClr).frameTimer = s.frameTimer := rfl
@[simp] theorem State.csumClr_rxStream (s : State) : (s.csumClr).rxStream = s.rxStream := rfl
@[simp] theorem State.csumClr_txStream (s : State) : (s.csumClr).txStream = s.txStream := rfl
@[simp] theorem State.csumClr_hostRdata (s : State) : (s.csumClr).hostRdata = s.hostRdata := rfl
@[simp] theorem State.csumClr_script (s : State) : (s.csumClr).script = s.script := rfl

/-! ### csumAcc -/

@[simp] theorem State.csumAcc_cfg (b : Byte) (s : State) : (s.csumAcc b).cfg = s.cfg := rfl
@[simp] theorem State.csumAcc_st (b : Byte) (s : State) : (s.csumAcc b).st = s.st := rfl
@[simp] theorem State.csumAcc_cap (b : Byte) (s : State) : (s.csumAcc b).cap = s.cap := rfl
@[simp] theorem State.csumAcc_len (b : Byte) (s : State) : (s.csumAcc b).len = s.len := rfl
@[simp] theorem State.csumAcc_idx (b : Byte) (s : State) : (s.csumAcc b).idx = s.idx := rfl
@[simp] theorem State.csumAcc_csum (b : Byte) (s : State) : (s.csumAcc b).csum = s.csum ^^^ b := rfl
@[simp] theorem State.csumAcc_rxChk (b : Byte) (s : State) : (s.csumAcc b).rxChk = s.rxChk := rfl
@[simp] theorem State.csumAcc_status (b : Byte) (s : State) : (s.csumAcc b).status = s.status := rfl
@[simp] theorem State.csumAcc_resLen (b : Byte) (s : State) : (s.csumAcc b).resLen = s.resLen := rfl
@[simp] theorem State.csumAcc_buf (b : Byte) (s : State) : (s.csumAcc b).buf = s.buf := rfl
@[simp] theorem State.csumAcc_byteTimer (b : Byte) (s : State) : (s.csumAcc b).byteTimer = s.byteTimer := rfl
@[simp] theorem State.csumAcc_frameTimer (b : Byte) (s : State) : (s.csumAcc b).frameTimer = s.frameTimer := rfl
@[simp] theorem State.csumAcc_rxStream (b : Byte) (s : State) : (s.csumAcc b).rxStream = s.rxStream := rfl
@[simp] theorem State.csumAcc_txStream (b : Byte) (s : State) : (s.csumAcc b).txStream = s.txStream := rfl
@[simp] theorem State.csumAcc_hostRdata (b : Byte) (s : State) : (s.csumAcc b).hostRdata = s.hostRdata := rfl
@[simp] theorem State.csumAcc_script (b : Byte) (s : State) : (s.csumAcc b).script = s.script := rfl

/-! ### resetRegisters -/

@[simp] theorem State.resetRegisters_cfg (s : State) : (s.resetRegisters).cfg = s.cfg := rfl
@[simp] theorem State.resetRegisters_st (s : State) : (s.resetRegisters).st = .idle := rfl
@[simp] theorem State.resetRegisters_cap (s : State) : (s.resetRegisters).cap = 0 := rfl
@[simp] theorem State.resetRegisters_len (s : State) : (s.resetRegisters).len = 0 := rfl
@[simp] theorem State.resetRegisters_idx (s : State) : (s.resetRegisters).idx = 0 := rfl
@[simp] theorem State.resetRegisters_csum (s : State) : (s.resetRegisters).csum = 0 := rfl
@[simp] theorem State.resetRegisters_rxChk (s : State) : (s.resetRegisters).rxChk = 0 := rfl
@[simp] theorem State.resetRegisters_status (s : State) : (s.resetRegisters).status = .none := rfl
@[simp] theorem State.resetRegisters_resLen (s : State) : (s.resetRegisters).resLen = 0 := rfl
@[simp] theorem State.resetRegisters_buf (s : State) : (s.resetRegisters).buf = s.buf := rfl
@[simp] theorem State.resetRegisters_byteTimer (s : State) : (s.resetRegisters).byteTimer = 0 := rfl
@[simp] theorem State.resetRegisters_frameTimer (s : State) : (s.resetRegisters).frameTimer = 0 := rfl
@[simp] theorem State.resetRegisters_rxStream (s : State) : (s.resetRegisters).rxStream = s.rxStream := rfl
@[simp] theorem State.resetRegisters_txStream (s : State) : (s.resetRegisters).txStream = s.txStream := rfl
@[simp] theorem State.resetRegisters_hostRdata (s : State) : (s.resetRegisters).hostRdata = s.hostRdata := rfl
@[simp] theorem State.resetRegisters_script (s : State) : (s.resetRegisters).script = s.script := rfl

/-! ### arrive -/

@[simp] theorem State.arrive_cfg (s : State) : (s.arrive).cfg = s.cfg := rfl
@[simp] theorem State.arrive_st (s : State) : (s.arrive).st = s.st := rfl
@[simp] theorem State.arrive_cap (s : State) : (s.arrive).cap = s.cap := rfl
@[simp] theorem State.arrive_len (s : State) : (s.arrive).len = s.len := rfl
@[simp] theorem State.arrive_idx (s : State) : (s.arrive).idx = s.idx := rfl
@[simp] theorem State.arrive_csum (s : State) : (s.arrive).csum = s.csum := rfl
@[simp] theorem State.arrive_rxChk (s : State) : (s.arrive).rxChk = s.rxChk := rfl
@[simp] theorem State.arrive_status (s : State) : (s.arrive).status = s.status := rfl
@[simp] theorem State.arrive_resLen (s : State) : (s.arrive).resLen = s.resLen := rfl
@[simp] theorem State.arrive_buf (s : State) : (s.arrive).buf = s.buf := rfl
@[simp] theorem State.arrive_byteTimer (s : State) : (s.arrive).byteTimer = s.byteTimer := rfl
@[simp] theorem State.arrive_frameTimer (s : State) : (s.arrive).frameTimer = s.frameTimer := rfl
@[simp] theorem State.arrive_rxStream (s : State) : (s.arrive).rxStream = (if s.drive.rxLose then [] else s.rxStream) ++ s.drive.rxArrive := rfl
@[simp] theorem State.arrive_txStream (s : State) : (s.arrive).txStream = s.txStream := rfl
@[simp] theorem State.arrive_hostRdata (s : State) : (s.arrive).hostRdata = s.hostRdata := rfl
@[simp] theorem State.arrive_script (s : State) : (s.arrive).script = s.script.tail := rfl

/-! ### consume -/

@[simp] theorem State.consume_cfg (s : State) : (s.consume).cfg = s.cfg := rfl
@[simp] theorem State.consume_st (s : State) : (s.consume).st = s.st := rfl
@[simp] theorem State.consume_cap (s : State) : (s.consume).cap = s.cap := rfl
@[simp] theorem State.consume_len (s : State) : (s.consume).len = s.len := rfl
@[simp] theorem State.consume_idx (s : State) : (s.consume).idx = s.idx := rfl
@[simp] theorem State.consume_csum (s : State) : (s.consume).csum = s.csum := rfl
@[simp] theorem State.consume_rxChk (s : State) : (s.consume).rxChk = s.rxChk := rfl
@[simp] theorem State.consume_status (s : State) : (s.consume).status = s.status := rfl
@[simp] theorem State.consume_resLen (s : State) : (s.consume).resLen = s.resLen := rfl
@[simp] theorem State.consume_buf (s : State) : (s.consume).buf = s.buf := rfl
@[simp] theorem State.consume_byteTimer (s : State) : (s.consume).byteTimer = s.byteTimer := rfl
@[simp] theorem State.consume_frameTimer (s : State) : (s.consume).frameTimer = s.frameTimer := rfl
@[simp] theorem State.consume_rxStream (s : State) : (s.consume).rxStream = s.rxStream.tail := rfl
@[simp] theorem State.consume_txStream (s : State) : (s.consume).txStream = s.txStream := rfl
@[simp] theorem State.consume_hostRdata (s : State) : (s.consume).hostRdata = s.hostRdata := rfl
@[simp] theorem State.consume_script (s : State) : (s.consume).script = s.script := rfl

/-! ### sendByte -/

@[simp] theorem State.sendByte_cfg (b : Byte) (s : State) : (s.sendByte b).cfg = s.cfg := rfl
@[simp] theorem State.sendByte_st (b : Byte) (s : State) : (s.sendByte b).st = s.st := rfl
@[simp] theorem State.sendByte_cap (b : Byte) (s : State) : (s.sendByte b).cap = s.cap := rfl
@[simp] theorem State.sendByte_len (b : Byte) (s : State) : (s.sendByte b).len = s.len := rfl
@[simp] theorem State.sendByte_idx (b : Byte) (s : State) : (s.sendByte b).idx = s.idx := rfl
@[simp] theorem State.sendByte_csum (b : Byte) (s : State) : (s.sendByte b).csum = s.csum := rfl
@[simp] theorem State.sendByte_rxChk (b : Byte) (s : State) : (s.sendByte b).rxChk = s.rxChk := rfl
@[simp] theorem State.sendByte_status (b : Byte) (s : State) : (s.sendByte b).status = s.status := rfl
@[simp] theorem State.sendByte_resLen (b : Byte) (s : State) : (s.sendByte b).resLen = s.resLen := rfl
@[simp] theorem State.sendByte_buf (b : Byte) (s : State) : (s.sendByte b).buf = s.buf := rfl
@[simp] theorem State.sendByte_byteTimer (b : Byte) (s : State) : (s.sendByte b).byteTimer = s.byteTimer := rfl
@[simp] theorem State.sendByte_frameTimer (b : Byte) (s : State) : (s.sendByte b).frameTimer = s.frameTimer := rfl
@[simp] theorem State.sendByte_rxStream (b : Byte) (s : State) : (s.sendByte b).rxStream = s.rxStream := rfl
@[simp] theorem State.sendByte_txStream (b : Byte) (s : State) : (s.sendByte b).txStream = s.txStream ++ [b] := rfl
@[simp] theorem State.sendByte_hostRdata (b : Byte) (s : State) : (s.sendByte b).hostRdata = s.hostRdata := rfl
@[simp] theorem State.sendByte_script (b : Byte) (s : State) : (s.sendByte b).script = s.script := rfl

/-! ### advanceFrameTimer -/

@[simp] theorem State.advanceFrameTimer_cfg (s : State) : (s.advanceFrameTimer).cfg = s.cfg := rfl
@[simp] theorem State.advanceFrameTimer_st (s : State) : (s.advanceFrameTimer).st = s.st := rfl
@[simp] theorem State.advanceFrameTimer_cap (s : State) : (s.advanceFrameTimer).cap = s.cap := rfl
@[simp] theorem State.advanceFrameTimer_len (s : State) : (s.advanceFrameTimer).len = s.len := rfl
@[simp] theorem State.advanceFrameTimer_idx (s : State) : (s.advanceFrameTimer).idx = s.idx := rfl
@[simp] theorem State.advanceFrameTimer_csum (s : State) : (s.advanceFrameTimer).csum = s.csum := rfl
@[simp] theorem State.advanceFrameTimer_rxChk (s : State) : (s.advanceFrameTimer).rxChk = s.rxChk := rfl
@[simp] theorem State.advanceFrameTimer_status (s : State) : (s.advanceFrameTimer).status = s.status := rfl
@[simp] theorem State.advanceFrameTimer_resLen (s : State) : (s.advanceFrameTimer).resLen = s.resLen := rfl
@[simp] theorem State.advanceFrameTimer_buf (s : State) : (s.advanceFrameTimer).buf = s.buf := rfl
@[simp] theorem State.advanceFrameTimer_byteTimer (s : State) : (s.advanceFrameTimer).byteTimer = s.byteTimer := rfl
@[simp] theorem State.advanceFrameTimer_frameTimer (s : State) : (s.advanceFrameTimer).frameTimer = satTimer s.cfg.timerW (s.frameTimer + 1) := rfl
@[simp] theorem State.advanceFrameTimer_rxStream (s : State) : (s.advanceFrameTimer).rxStream = s.rxStream := rfl
@[simp] theorem State.advanceFrameTimer_txStream (s : State) : (s.advanceFrameTimer).txStream = s.txStream := rfl
@[simp] theorem State.advanceFrameTimer_hostRdata (s : State) : (s.advanceFrameTimer).hostRdata = s.hostRdata := rfl
@[simp] theorem State.advanceFrameTimer_script (s : State) : (s.advanceFrameTimer).script = s.script := rfl

/-! ### startReceive -/

@[simp] theorem State.startReceive_cfg (c : Byte) (s : State) : (s.startReceive c).cfg = s.cfg := rfl
@[simp] theorem State.startReceive_st (c : Byte) (s : State) : (s.startReceive c).st = .awaitHeader := rfl
@[simp] theorem State.startReceive_cap (c : Byte) (s : State) : (s.startReceive c).cap = c := rfl
@[simp] theorem State.startReceive_len (c : Byte) (s : State) : (s.startReceive c).len = 0 := rfl
@[simp] theorem State.startReceive_idx (c : Byte) (s : State) : (s.startReceive c).idx = 0 := rfl
@[simp] theorem State.startReceive_csum (c : Byte) (s : State) : (s.startReceive c).csum = 0 := rfl
@[simp] theorem State.startReceive_rxChk (c : Byte) (s : State) : (s.startReceive c).rxChk = s.rxChk := rfl
@[simp] theorem State.startReceive_status (c : Byte) (s : State) : (s.startReceive c).status = s.status := rfl
@[simp] theorem State.startReceive_resLen (c : Byte) (s : State) : (s.startReceive c).resLen = s.resLen := rfl
@[simp] theorem State.startReceive_buf (c : Byte) (s : State) : (s.startReceive c).buf = s.buf := rfl
@[simp] theorem State.startReceive_byteTimer (c : Byte) (s : State) : (s.startReceive c).byteTimer = 0 := rfl
@[simp] theorem State.startReceive_frameTimer (c : Byte) (s : State) : (s.startReceive c).frameTimer = 0 := rfl
@[simp] theorem State.startReceive_rxStream (c : Byte) (s : State) : (s.startReceive c).rxStream = s.rxStream := rfl
@[simp] theorem State.startReceive_txStream (c : Byte) (s : State) : (s.startReceive c).txStream = s.txStream := rfl
@[simp] theorem State.startReceive_hostRdata (c : Byte) (s : State) : (s.startReceive c).hostRdata = s.hostRdata := rfl
@[simp] theorem State.startReceive_script (c : Byte) (s : State) : (s.startReceive c).script = s.script := rfl

/-! ### startSend -/

@[simp] theorem State.startSend_cfg (n : Byte) (s : State) : (s.startSend n).cfg = s.cfg := rfl
@[simp] theorem State.startSend_st (n : Byte) (s : State) : (s.startSend n).st = .txHeader := rfl
@[simp] theorem State.startSend_cap (n : Byte) (s : State) : (s.startSend n).cap = s.cap := rfl
@[simp] theorem State.startSend_len (n : Byte) (s : State) : (s.startSend n).len = n := rfl
@[simp] theorem State.startSend_idx (n : Byte) (s : State) : (s.startSend n).idx = 0 := rfl
@[simp] theorem State.startSend_csum (n : Byte) (s : State) : (s.startSend n).csum = 0 := rfl
@[simp] theorem State.startSend_rxChk (n : Byte) (s : State) : (s.startSend n).rxChk = s.rxChk := rfl
@[simp] theorem State.startSend_status (n : Byte) (s : State) : (s.startSend n).status = s.status := rfl
@[simp] theorem State.startSend_resLen (n : Byte) (s : State) : (s.startSend n).resLen = s.resLen := rfl
@[simp] theorem State.startSend_buf (n : Byte) (s : State) : (s.startSend n).buf = s.buf := rfl
@[simp] theorem State.startSend_byteTimer (n : Byte) (s : State) : (s.startSend n).byteTimer = s.byteTimer := rfl
@[simp] theorem State.startSend_frameTimer (n : Byte) (s : State) : (s.startSend n).frameTimer = s.frameTimer := rfl
@[simp] theorem State.startSend_rxStream (n : Byte) (s : State) : (s.startSend n).rxStream = s.rxStream := rfl
@[simp] theorem State.startSend_txStream (n : Byte) (s : State) : (s.startSend n).txStream = s.txStream := rfl
@[simp] theorem State.startSend_hostRdata (n : Byte) (s : State) : (s.startSend n).hostRdata = s.hostRdata := rfl
@[simp] theorem State.startSend_script (n : Byte) (s : State) : (s.startSend n).script = s.script := rfl

/-! ### hostSample -/

@[simp] theorem State.hostSample_cfg (a : Byte) (s : State) : (s.hostSample a).cfg = s.cfg := rfl
@[simp] theorem State.hostSample_st (a : Byte) (s : State) : (s.hostSample a).st = s.st := rfl
@[simp] theorem State.hostSample_cap (a : Byte) (s : State) : (s.hostSample a).cap = s.cap := rfl
@[simp] theorem State.hostSample_len (a : Byte) (s : State) : (s.hostSample a).len = s.len := rfl
@[simp] theorem State.hostSample_idx (a : Byte) (s : State) : (s.hostSample a).idx = s.idx := rfl
@[simp] theorem State.hostSample_csum (a : Byte) (s : State) : (s.hostSample a).csum = s.csum := rfl
@[simp] theorem State.hostSample_rxChk (a : Byte) (s : State) : (s.hostSample a).rxChk = s.rxChk := rfl
@[simp] theorem State.hostSample_status (a : Byte) (s : State) : (s.hostSample a).status = s.status := rfl
@[simp] theorem State.hostSample_resLen (a : Byte) (s : State) : (s.hostSample a).resLen = s.resLen := rfl
@[simp] theorem State.hostSample_buf (a : Byte) (s : State) : (s.hostSample a).buf = s.buf := rfl
@[simp] theorem State.hostSample_byteTimer (a : Byte) (s : State) : (s.hostSample a).byteTimer = s.byteTimer := rfl
@[simp] theorem State.hostSample_frameTimer (a : Byte) (s : State) : (s.hostSample a).frameTimer = s.frameTimer := rfl
@[simp] theorem State.hostSample_rxStream (a : Byte) (s : State) : (s.hostSample a).rxStream = s.rxStream := rfl
@[simp] theorem State.hostSample_txStream (a : Byte) (s : State) : (s.hostSample a).txStream = s.txStream := rfl
@[simp] theorem State.hostSample_hostRdata (a : Byte) (s : State) : (s.hostSample a).hostRdata = s.bufRdata a := rfl
@[simp] theorem State.hostSample_script (a : Byte) (s : State) : (s.hostSample a).script = s.script := rfl

/-! ### sampled -/

@[simp] theorem State.sampled_cfg (s : State) : (s.sampled).cfg = s.cfg := rfl
@[simp] theorem State.sampled_st (s : State) : (s.sampled).st = s.st := rfl
@[simp] theorem State.sampled_cap (s : State) : (s.sampled).cap = s.cap := rfl
@[simp] theorem State.sampled_len (s : State) : (s.sampled).len = s.len := rfl
@[simp] theorem State.sampled_idx (s : State) : (s.sampled).idx = s.idx := rfl
@[simp] theorem State.sampled_csum (s : State) : (s.sampled).csum = s.csum := rfl
@[simp] theorem State.sampled_rxChk (s : State) : (s.sampled).rxChk = s.rxChk := rfl
@[simp] theorem State.sampled_status (s : State) : (s.sampled).status = s.status := rfl
@[simp] theorem State.sampled_resLen (s : State) : (s.sampled).resLen = s.resLen := rfl
@[simp] theorem State.sampled_buf (s : State) : (s.sampled).buf = s.buf := rfl
@[simp] theorem State.sampled_byteTimer (s : State) : (s.sampled).byteTimer = s.byteTimer := rfl
@[simp] theorem State.sampled_frameTimer (s : State) : (s.sampled).frameTimer = s.frameTimer := rfl
@[simp] theorem State.sampled_rxStream (s : State) : (s.sampled).rxStream = (if s.drive.rxLose then [] else s.rxStream) ++ s.drive.rxArrive := rfl
@[simp] theorem State.sampled_txStream (s : State) : (s.sampled).txStream = s.txStream := rfl
@[simp] theorem State.sampled_hostRdata (s : State) : (s.sampled).hostRdata = s.arrive.hostSeen s.drive := rfl
@[simp] theorem State.sampled_script (s : State) : (s.sampled).script = s.script.tail := rfl

end Sys2Proof.Machine
end

