-- ==== Sys2Proof/Laws/Memory.lean ====
section
/-! SUPPORT. The buffer: what a read gives after a write, and the canonical form under every memory operation. -/

namespace Sys2Proof.Machine

theorem memLookup_memInsert (m : Memory) (a b : Nat) (v : Byte) :
    memLookup (memInsert m a v) b = if b = a then some v else memLookup m b := by
  induction m with
  | nil => simp [memInsert, memLookup]
  | cons e rest ih =>
    obtain ⟨c, w⟩ := e
    by_cases hlt : a < c
    · simp [memInsert, memLookup, hlt]
    · by_cases heq : a = c
      · subst heq
        by_cases hb : b = a <;> simp [memInsert, memLookup, hb]
      · by_cases hbc : b = c
        · simp [memInsert, memLookup, hlt, heq, hbc]
          intro h; exact absurd h.symm heq
        · simp [memInsert, memLookup, hlt, heq, hbc, ih]

/-- A write to an implemented entry is read back there, and changes no other entry; a write to 255 changes nothing. -/
theorem memRead_memWrite (m : Memory) (a b : Nat) (v : Byte) :
    memRead (memWrite m a v) b = if b = a ∧ a ≤ 254 then v else memRead m b := by
  by_cases ha : a ≤ 254
  · by_cases hb : b = a
    · subst hb; simp [memRead, memWrite, ha, memLookup_memInsert]
    · simp [memRead, memWrite, ha, memLookup_memInsert, hb]
  · simp [memWrite, ha]

theorem memRead_memWrite_self (m : Memory) (a : Nat) (v : Byte) (h : a ≤ 254) : memRead (memWrite m a v) a = v := by
  simp [memRead_memWrite, h]

theorem memRead_memWrite_other (m : Memory) (a b : Nat) (v : Byte) (h : b ≠ a) :
    memRead (memWrite m a v) b = memRead m b := by
  simp [memRead_memWrite, h]

theorem Memory.wfFrom_memInsert (m : Memory) (lo a : Nat) (v : Byte) (hlo : lo ≤ a) (ha : a ≤ 254)
    (h : Memory.wfFrom lo m = true) : Memory.wfFrom lo (memInsert m a v) = true := by
  induction m generalizing lo with
  | nil => simp [memInsert, Memory.wfFrom, hlo, ha]
  | cons e rest ih =>
    obtain ⟨c, w⟩ := e
    simp only [Memory.wfFrom, Bool.and_eq_true, decide_eq_true_eq] at h
    obtain ⟨⟨hc, hc'⟩, hrest⟩ := h
    by_cases hlt : a < c
    · simp only [memInsert, hlt, if_true, Memory.wfFrom, Bool.and_eq_true, decide_eq_true_eq]
      exact ⟨⟨hlo, ha⟩, ⟨hlt, hc'⟩, hrest⟩
    · by_cases heq : a = c
      · subst heq
        simp [memInsert, Memory.wfFrom, hlo, ha, hrest]
      · simp only [memInsert, hlt, heq, if_false, Memory.wfFrom, Bool.and_eq_true, decide_eq_true_eq]
        exact ⟨⟨hc, hc'⟩, ih (c + 1) (by omega) hrest⟩

/-- Every memory operation keeps the canonical form. -/
theorem Memory.wf_memWrite (m : Memory) (a : Nat) (v : Byte) (h : Memory.wf m = true) :
    Memory.wf (memWrite m a v) = true := by
  unfold memWrite
  split
  · exact Memory.wfFrom_memInsert m 0 a v (Nat.zero_le a) (by assumption) h
  · exact h

theorem Memory.wf_reset : Memory.wf State.reset.buf = true := rfl

@[simp] theorem bufBytes_length (m : Memory) (k : Nat) : (bufBytes m k).length = k := by simp [bufBytes]

theorem bufBytes_succ (m : Memory) (k : Nat) : bufBytes m (k + 1) = bufBytes m k ++ [memRead m k] := by
  simp [bufBytes, List.range_succ]

theorem bufBytes_get (m : Memory) (k i : Nat) (h : i < k) : (bufBytes m k)[i]? = some (memRead m i) := by
  simp [bufBytes, h]

/-- A write at or beyond entry `k` leaves the first `k` entries as they were. -/
theorem bufBytes_memWrite (m : Memory) (a k : Nat) (v : Byte) (h : k ≤ a) :
    bufBytes (memWrite m a v) k = bufBytes m k := by
  apply List.map_congr_left
  intro i hi
  exact memRead_memWrite_other m a i v (by have := List.mem_range.mp hi; omega)

end Sys2Proof.Machine
end

