-- ==== Sys2Proof/Laws/PerInstr.lean ====
section
/-! SUPPORT. Statements made for every instruction, one lemma per constructor. -/

namespace Sys2Proof.Laws.WireWidth

/-- The encoding of a well-formed instruction is as wide as its row of the opcode table says (R60, R66, R69). -/
def Statement (i : Instr) : Prop :=
  ∀ header : Byte, i.wellFormed = true → (encode header i).width = i.width

theorem recv (n : BitVec 9) : Statement (.recv n) := fun _ _ => rfl

theorem send (n : BitVec 9) : Statement (.send n) := fun _ _ => rfl

theorem bufwr (a v : Byte) : Statement (.bufwr a v) := fun _ _ => rfl

theorem bufrd (a v : Byte) : Statement (.bufrd a v) := fun _ _ => rfl

theorem frame (payload : List Byte) (checksum : Byte) : Statement (.frame payload checksum) := by
  intro header _
  simp [encode, Encoded.width, frameBytes, Instr.width, overhead]

end Sys2Proof.Laws.WireWidth
end

