-- ==== Sys2Proof/Laws/Run.lean ====
section
/-! SUPPORT. Runs as iterated ticks, and the stream a receive meets. -/

namespace Sys2Proof.Machine

@[simp] theorem run_zero (s : State) : run 0 s = .next s := rfl

theorem run_succ (k : Nat) (s : State) : run (k + 1) s = andThen (step s) (run k) := rfl

/-- The run is the host's run of the machine. -/
theorem run_eq_core_run (k : Nat) (s : State) : run k s = Host.Core.run Sys2Proof.core k s := by
  induction k generalizing s with
  | zero => rfl
  | succ k ih =>
    have h := Host.Core.run.eq_2 Sys2Proof.core s k
    have hstep : Sys2Proof.core.step s = step s := rfl
    refine Eq.trans ?_ h.symm
    rw [hstep, run_succ]
    cases step s with
    | next t => exact ih t
    | fault r => rfl
    | refused r => rfl

theorem run_succ_of_step {s t : State} (h : step s = .next t) (k : Nat) : run (k + 1) s = run k t := by
  simp [run_succ, h, andThen]

/-- Ticks compose. -/
theorem run_add_of_run {a : Nat} {s t : State} (h : run a s = .next t) (b : Nat) : run (a + b) s = run b t := by
  induction a generalizing s with
  | zero => simp only [run_zero, Host.Outcome.next.injEq] at h; subst h; simp
  | succ a ih =>
    rw [Nat.add_right_comm, run_succ]
    rw [run_succ] at h
    cases hs : step s with
    | next u => rw [hs] at h; exact ih h
    | fault r => exact nomatch r
    | refused r => rw [hs] at h; cases h

/-! ## The stream a receive meets -/

@[simp] theorem takingTicks_nil : takingTicks [] = 0 := rfl

@[simp] theorem takingTicks_cons (x : Nat × Byte) (met : List (Nat × Byte)) :
    takingTicks (x :: met) = x.1 + 1 + takingTicks met := by simp [takingTicks]

@[simp] theorem arrivals_nil : arrivals [] = [] := rfl

@[simp] theorem arrivals_cons (d : Drive) (ds : List Drive) : arrivals (d :: ds) = d.rxArrive ++ arrivals ds := rfl

/-- What a receive meets are the bytes the Transport holds and those the script brings, in order. -/
theorem metStream_bytes (ds : List Drive) (waited : Nat) (unread : List Byte) :
    (metStream waited unread ds).map (·.2) = unread ++ arrivals ds := by
  induction ds generalizing waited unread with
  | nil => cases unread <;> simp [metStream]
  | cons d ds ih =>
    rw [arrivals_cons, ← List.append_assoc, metStream.eq_3]
    cases unread ++ d.rxArrive <;> simp [ih]

end Sys2Proof.Machine
end

