-- ==== Sys2Proof/Laws/Tick.lean ====
section
/-! SUPPORT. What a tick can do, said once: the three shapes of a step, and for each arm every outcome it can have. -/

namespace Sys2Proof.Machine

/-! ## The three shapes of a tick (R80) -/

theorem State.busy_eq (s : State) : s.busy = !s.st.resting := rfl

theorem State.cmdReady_eq (s : State) : s.cmdReady = s.st.resting := rfl

/-- A buffer-port word is a host write or a host read, as bit 16 says (R69). -/
theorem exec_decodeBufPort (w : BufWord) (s : State) :
    exec (decodeBufPort w) s =
      .next (if w.getLsbD 16 then s.hostWrite (w.extractLsb' 8 8) (w.extractLsb' 0 8)
        else s.hostSample (w.extractLsb' 8 8)) := by
  unfold decodeBufPort
  split <;> rfl

/-- A command word is a RECV or a SEND, as bit 9 says (R66). -/
theorem exec_decodeCmd (w : CmdWord) (s : State) :
    exec (decodeCmd w) s =
      .next (if s.cmdReady then
          (if w.getLsbD 9 then s.acceptSend (w.extractLsb' 0 9) else s.acceptRecv (w.extractLsb' 0 9))
        else s) := by
  unfold decodeCmd
  split <;> simp_all [exec, execRecv, execSend]

/-- On a busy block the buffer port changes nothing but what the host has sampled (R88, R89). -/
theorem bufPortTick_busy (s : State) (h : s.st.resting = false) : bufPortTick s.drive s.arrive = .next s.sampled := by
  unfold bufPortTick State.sampled State.hostSeen
  cases hw : s.drive.bufPort with
  | none => rfl
  | some w =>
    simp only [exec_decodeBufPort, State.hostWrite, State.hostSample, State.busy, State.cmdReady]
    cases w.getLsbD 16 with
    | true => simp [h]; rfl
    | false => simp

/-- A tick of a busy block (R80, R90). -/
theorem step_busy (s : State) (hr : s.drive.rst = false) (h : s.st.resting = false) :
    step s = .next (s.sampled.busyArm s.drive) := by
  simp [step, tick, hr, bufPortTick_busy s h, andThen, stateArm, State.cmdReady, h]

/-- What the buffer port leaves of a resting block: a landed write, an answered read, or nothing (R88, R89). -/
def State.bufServed (d : Drive) (s : State) : State :=
  match d.bufPort with
  | none => s
  | some w => if w.getLsbD 16 then s.hostWrite (w.extractLsb' 8 8) (w.extractLsb' 0 8) else s.hostSample (w.extractLsb' 8 8)

theorem bufPortTick_eq (d : Drive) (s : State) : bufPortTick d s = .next (s.bufServed d) := by
  unfold bufPortTick State.bufServed
  cases d.bufPort with
  | none => rfl
  | some w => exact exec_decodeBufPort w s

/-- The buffer port changes at most the buffer and what the host has sampled. -/
theorem State.bufServed_cases (d : Drive) (s : State) :
    ∃ m r, s.bufServed d = { s with buf := m, hostRdata := r } ∧ (Memory.wf s.buf = true → Memory.wf m = true) ∧
      (s.busy = true → m = s.buf) := by
  unfold State.bufServed
  split
  · exact ⟨s.buf, s.hostRdata, rfl, id, fun _ => rfl⟩
  · split
    · unfold State.hostWrite
      split
      · exact ⟨s.buf, s.hostRdata, rfl, id, fun _ => rfl⟩
      · refine ⟨_, s.hostRdata, rfl, Memory.wf_memWrite _ _ _, ?_⟩
        intro h; contradiction
    · exact ⟨s.buf, _, rfl, id, fun _ => rfl⟩

/-- What the command port leaves of a resting block (R81, R82, R87). -/
def State.cmdServed (d : Drive) (s : State) : State :=
  match d.cmdPort with
  | none => s
  | some w => if w.getLsbD 9 then s.acceptSend (w.extractLsb' 0 9) else s.acceptRecv (w.extractLsb' 0 9)

/-- A tick of a resting block (R80). -/
theorem step_resting (s : State) (hr : s.drive.rst = false) (h : s.st.resting = true) :
    step s = .next ((s.arrive.bufServed s.drive).cmdServed s.drive) := by
  have hready : (s.arrive.bufServed s.drive).cmdReady = true := by
    obtain ⟨m, r, he, -⟩ := State.bufServed_cases s.drive s.arrive
    rw [he]; exact h
  simp only [step, tick, hr, bufPortTick_eq, andThen, stateArm, hready, if_true, commandTick, State.cmdServed]
  cases s.drive.cmdPort with
  | none => rfl
  | some w => simp [exec_decodeCmd, hready]

/-- A reset tick (R200). -/
theorem step_reset (s : State) (hr : s.drive.rst = true) :
    step s = .next ((s.arrive.resetHandshakes s.drive).resetRegisters) := by
  simp [step, tick, hr, State.resetTick]

/-- The handshakes of a reset tick touch the streams and the host's sample, nothing else. -/
theorem State.resetHandshakes_cases (d : Drive) (s : State) :
    ∃ r, s.resetHandshakes d =
      { s with
        rxStream := if s.st.reading then s.rxStream.tail else s.rxStream
        txStream := if s.st.sending && d.txReady && !d.txErr && d.txCounts then s.txStream ++ [s.txData] else s.txStream
        hostRdata := r } := by
  unfold State.resetHandshakes State.rxReady State.txValid State.consume State.sendByte State.hostSample
  cases s.st.reading <;> cases (s.st.sending && d.txReady && !d.txErr && d.txCounts) <;>
    (cases d.bufPort with
      | none => exact ⟨s.hostRdata, rfl⟩
      | some w =>
        simp only [decodeBufPort]
        cases w.getLsbD 16 <;> exact ⟨_, rfl⟩)

/-- The step function is total (R80). -/
theorem step_next (s : State) : ∃ t, step s = .next t := by
  cases hr : s.drive.rst with
  | true => exact ⟨_, step_reset s hr⟩
  | false =>
    cases h : s.st.resting with
    | true => exact ⟨_, step_resting s hr h⟩
    | false => exact ⟨_, step_busy s hr h⟩

/-! ## The arms -/

/-- Acceptance of RECV has two outcomes (R83, R84). -/
theorem State.acceptRecv_cases (n : BitVec 9) (s : State) :
    (n = 0 ∧ s.acceptRecv n = s.fail .invalidLength) ∨
    (n ≠ 0 ∧ s.acceptRecv n =
      { s with
        cap := recvCapacity n, csum := 0, idx := 0, len := 0, byteTimer := 0, frameTimer := 0
        status := .none, resLen := 0, st := .awaitHeader }) := by
  unfold State.acceptRecv recvInRange
  by_cases h : n = 0
  · subst h; exact .inl ⟨rfl, rfl⟩
  · have : n.toNat ≠ 0 := fun hn => h (BitVec.eq_of_toNat_eq (by simpa using hn))
    refine .inr ⟨h, ?_⟩
    simp [this, State.startReceive, State.beginCommand, State.csumClr]

/-- Acceptance of SEND has two outcomes (R85, R86). -/
theorem State.acceptSend_cases (n : BitVec 9) (s : State) :
    (¬ (1 ≤ n.toNat ∧ n.toNat ≤ 255) ∧ s.acceptSend n = s.fail .invalidLength) ∨
    ((1 ≤ n.toNat ∧ n.toNat ≤ 255) ∧ s.acceptSend n =
      { s with len := sendLength n, idx := 0, csum := 0, status := .none, resLen := 0, st := .txHeader }) := by
  unfold State.acceptSend sendInRange
  by_cases h : 1 ≤ n.toNat ∧ n.toNat ≤ maxPayload
  · refine .inr ⟨h, ?_⟩
    simp only [h, and_self, decide_true, if_true]; rfl
  · refine .inl ⟨h, ?_⟩
    simp only [h, decide_false]; rfl

/-- A wait tick fails with Timeout or counts (R122). -/
theorem State.waitTick_cases (s : State) :
    (s.cfg.byteTimeout ≤ s.byteTimer + 1 ∧ s.waitTick = s.fail .timeout) ∨
    (s.byteTimer + 1 < s.cfg.byteTimeout ∧
      s.waitTick = { s with byteTimer := bumpTimer s.cfg.timerW s.byteTimer }) := by
  unfold State.waitTick
  by_cases h : s.byteTimer + 1 ≥ s.cfg.byteTimeout
  · exact .inl ⟨h, by simp [h]⟩
  · exact .inr ⟨by omega, by simp [h]⟩

/-- The byte arm of AwaitHeader has two outcomes (R124). -/
theorem State.awaitHeaderByte_cases (b : Byte) (s : State) :
    (b = s.cfg.header ∧
      s.awaitHeaderByte b = { s with csum := s.csum ^^^ b, byteTimer := 0, st := .readLength }) ∨
    (b ≠ s.cfg.header ∧ s.awaitHeaderByte b = s.fail .headerMismatch) := by
  unfold State.awaitHeaderByte
  by_cases h : b = s.cfg.header
  · exact .inl ⟨h, by simp [h, State.csumAcc]⟩
  · exact .inr ⟨h, by simp [h]⟩

/-- The byte arm of ReadLength has two outcomes (R126, R127). -/
theorem State.readLengthByte_cases (b : Byte) (s : State) :
    (s.cap.toNat < b.toNat ∧ s.readLengthByte b = s.fail .lengthInvalid) ∨
    (b.toNat ≤ s.cap.toNat ∧ s.readLengthByte b =
      { s with
        csum := s.csum ^^^ b, len := b, idx := 0, byteTimer := 0, frameTimer := 0
        st := if b = 0 then .readChecksum else .readPayload }) := by
  unfold State.readLengthByte
  by_cases h : s.cap < b
  · exact .inl ⟨BitVec.lt_def.mp h, by simp [h]⟩
  · refine .inr ⟨by simpa [BitVec.lt_def] using h, ?_⟩
    simp [h, State.csumAcc]

/-- The byte arm of ReadPayload has two outcomes (R129). -/
theorem State.readPayloadByte_cases (b : Byte) (s : State) :
    let ft := satTimer s.cfg.timerW (s.frameTimer + 1)
    let taken : State :=
      { s with csum := s.csum ^^^ b, buf := memWrite s.buf s.idx.toNat b, idx := s.idx + 1, frameTimer := ft }
    (s.cfg.frameDeadline < ft ∧ s.readPayloadByte b = taken.fail .timeout) ∨
    (ft ≤ s.cfg.frameDeadline ∧ s.readPayloadByte b =
      { taken with byteTimer := 0, st := if s.idx + 1 = s.len then .readChecksum else .readPayload }) := by
  intro ft taken
  by_cases h : s.cfg.frameDeadline < ft
  · refine .inl ⟨h, ?_⟩
    unfold State.readPayloadByte
    exact if_pos h
  · refine .inr ⟨by omega, ?_⟩
    unfold State.readPayloadByte
    exact if_neg h

/-- Validate has two outcomes (R136). -/
theorem State.validateArm_cases (s : State) :
    (s.csum = s.rxChk ∧ s.validateArm = s.finish) ∨
    (s.csum ≠ s.rxChk ∧ s.validateArm = s.fail .checksumMismatch) := by
  unfold State.validateArm
  by_cases h : s.csum = s.rxChk
  · exact .inl ⟨h, by simp [h]⟩
  · exact .inr ⟨h, by simp [h]⟩

/-- A tick of a reading state is a wait or takes the oldest unread byte (R121). -/
theorem State.readArm_cases (s : State) :
    (s.rxStream = [] ∧ s.readArm = s.waitArm) ∨
    (∃ b rest, s.rxStream = b :: rest ∧ s.readArm = ({ s with rxStream := rest } : State).byteArm b) := by
  unfold State.readArm
  cases h : s.rxStream with
  | nil => exact .inl ⟨rfl, rfl⟩
  | cons b rest => exact .inr ⟨b, rest, rfl, by simp [State.consume, h]⟩

/-- A tick of a sending state has three outcomes (R151). -/
theorem State.sendArm_cases (ready err : Bool) (s : State) :
    (err = true ∧ s.sendArm ready err = s.fail .transportWriteFailed) ∨
    (err = false ∧ ready = true ∧
      s.sendArm ready err = ({ s with txStream := s.txStream ++ [s.txData] } : State).sentArm) ∨
    (err = false ∧ ready = false ∧ s.sendArm ready err = s) := by
  cases err <;> cases ready <;> simp [State.sendArm, State.sendByte]

/-- Everything a tick of a resting block can do: nothing to the registers, a command out of range, a receive started
or a send started; the buffer port has been served first (R80 to R88). -/
theorem step_resting_elim {P : State → Prop} (s : State) (hr : s.drive.rst = false) (h : s.st.resting = true)
    (hP : ∀ m r, (Memory.wf s.buf = true → Memory.wf m = true) →
      (s.drive.cmdPort = none → P ({ s.arrive with buf := m, hostRdata := r })) ∧
      P ({ s.arrive with buf := m, hostRdata := r, st := .failed, status := .invalidLength, resLen := 0 }) ∧
      (∀ n : BitVec 9, n ≠ 0 →
        P ({ s.arrive with
            buf := m, hostRdata := r, cap := recvCapacity n, csum := 0, idx := 0, len := 0, byteTimer := 0
            frameTimer := 0, status := .none, resLen := 0, st := .awaitHeader })) ∧
      (∀ n : BitVec 9, 1 ≤ n.toNat ∧ n.toNat ≤ 255 →
        P ({ s.arrive with
            buf := m, hostRdata := r, len := sendLength n, idx := 0, csum := 0, status := .none, resLen := 0
            st := .txHeader }))) :
    ∃ t, step s = .next t ∧ P t := by
  refine ⟨_, step_resting s hr h, ?_⟩
  obtain ⟨m, r, he, hwf, -⟩ := State.bufServed_cases s.drive s.arrive
  obtain ⟨h1, h2, h3, h4⟩ := hP m r hwf
  rw [he]
  unfold State.cmdServed
  cases hc : s.drive.cmdPort with
  | none => exact h1 hc
  | some w =>
    cases hw : w.getLsbD 9 with
    | true =>
      rcases State.acceptSend_cases (w.extractLsb' 0 9) ({ s.arrive with buf := m, hostRdata := r } : State) with
        ⟨-, e⟩ | ⟨hn, e⟩
      · simp only [hw, if_true, e]; exact h2
      · simpa only [hw, if_true, e] using h4 _ hn
    | false =>
      rcases State.acceptRecv_cases (w.extractLsb' 0 9) ({ s.arrive with buf := m, hostRdata := r } : State) with
        ⟨-, e⟩ | ⟨hn, e⟩
      · simp only [hw, Bool.false_eq_true, if_false, e]; exact h2
      · simpa only [hw, Bool.false_eq_true, if_false, e] using h3 _ hn

/-! ## Ticks of busy states, by kind -/

theorem St.not_resting_of_reading {x : St} (h : x.reading = true) : x.resting = false := by
  cases x <;> first | rfl | exact absurd h (by decide)

theorem St.not_resting_of_sending {x : St} (h : x.sending = true) : x.resting = false := by
  cases x <;> first | rfl | exact absurd h (by decide)

theorem St.of_reading {x : St} (h : x.reading = true) :
    x = .awaitHeader ∨ x = .readLength ∨ x = .readPayload ∨ x = .readChecksum := by
  revert h; cases x <;> decide

theorem St.of_sending {x : St} (h : x.sending = true) :
    x = .txHeader ∨ x = .txLength ∨ x = .txPayload ∨ x = .txChecksum := by
  revert h; cases x <;> decide

theorem State.busyArm_reading (d : Drive) (s : State) (h : s.st.reading = true) : s.busyArm d = s.readArm := by
  unfold State.busyArm
  cases hst : s.st <;> first | rfl | (rw [hst] at h; exact absurd h (by decide))

theorem State.busyArm_sending (d : Drive) (s : State) (h : s.st.sending = true) :
    s.busyArm d = s.sendArm d.txReady d.txErr := by
  unfold State.busyArm
  cases hst : s.st <;> first | rfl | (rw [hst] at h; exact absurd h (by decide))

theorem State.busyArm_validate (d : Drive) (s : State) (h : s.st = .validate) : s.busyArm d = s.validateArm := by
  unfold State.busyArm; rw [h]

theorem State.byteArm_awaitHeader (b : Byte) (s : State) (h : s.st = .awaitHeader) :
    s.byteArm b = s.awaitHeaderByte b := by
  unfold State.byteArm; rw [h]

theorem State.byteArm_readLength (b : Byte) (s : State) (h : s.st = .readLength) :
    s.byteArm b = s.readLengthByte b := by
  unfold State.byteArm; rw [h]

theorem State.byteArm_readPayload (b : Byte) (s : State) (h : s.st = .readPayload) :
    s.byteArm b = s.readPayloadByte b := by
  unfold State.byteArm; rw [h]

theorem State.byteArm_readChecksum (b : Byte) (s : State) (h : s.st = .readChecksum) :
    s.byteArm b = s.readChecksumByte b := by
  unfold State.byteArm; rw [h]

/-- A tick of a reading state in which the Transport holds a byte (R121). -/
theorem step_takes_byte (s : State) (b : Byte) (rest : List Byte) (hr : s.drive.rst = false)
    (h : s.st.reading = true) (hrx : s.arrive.rxStream = b :: rest) :
    step s = .next (({ s.sampled with rxStream := rest } : State).byteArm b) := by
  have hrx' : s.sampled.rxStream = b :: rest := hrx
  rw [step_busy s hr (St.not_resting_of_reading h), State.busyArm_reading _ _ (by exact h)]
  rcases State.readArm_cases s.sampled with ⟨hn, -⟩ | ⟨b', rest', hc, e⟩
  · rw [hrx'] at hn; cases hn
  · rw [hrx'] at hc; cases hc; rw [e]

/-- A tick of a reading state in which the Transport holds no byte (R121). -/
theorem step_waits (s : State) (hr : s.drive.rst = false) (h : s.st.reading = true) (hrx : s.arrive.rxStream = []) :
    step s = .next s.sampled.waitArm := by
  have hrx' : s.sampled.rxStream = [] := hrx
  rw [step_busy s hr (St.not_resting_of_reading h), State.busyArm_reading _ _ (by exact h)]
  rcases State.readArm_cases s.sampled with ⟨-, e⟩ | ⟨b', rest', hc, -⟩
  · rw [e]
  · rw [hrx'] at hc; cases hc

/-- A tick of Validate (R135, R136). -/
theorem step_validate (s : State) (hr : s.drive.rst = false) (h : s.st = .validate) :
    step s = .next s.sampled.validateArm := by
  rw [step_busy s hr (by rw [h]; rfl), State.busyArm_validate _ _ (by exact h)]

/-- A tick of a sending state (R151). -/
theorem step_sends (s : State) (hr : s.drive.rst = false) (h : s.st.sending = true) :
    step s = .next (s.sampled.sendArm s.drive.txReady s.drive.txErr) := by
  rw [step_busy s hr (St.not_resting_of_sending h), State.busyArm_sending _ _ (by exact h)]

/-- The wait arm has two outcomes; `frame_timer` advances in ReadPayload and ReadChecksum in both (R122, R123). -/
theorem State.waitArm_cases (s : State) (h : s.st.reading = true) :
    let ft := if s.st = .readPayload ∨ s.st = .readChecksum then satTimer s.cfg.timerW (s.frameTimer + 1) else s.frameTimer
    (s.cfg.byteTimeout ≤ s.byteTimer + 1 ∧ s.waitArm = ({ s with frameTimer := ft } : State).fail .timeout) ∨
    (s.byteTimer + 1 < s.cfg.byteTimeout ∧
      s.waitArm = { s with frameTimer := ft, byteTimer := bumpTimer s.cfg.timerW s.byteTimer }) := by
  intro ft
  cases hst : s.st <;>
    first
      | (rw [hst] at h; exact absurd h (by decide))
      | (rcases State.waitTick_cases s with ⟨hb, e⟩ | ⟨hb, e⟩
         · exact .inl ⟨hb, by simp [State.waitArm, hst, ft, e, State.advanceFrameTimer, State.fail]⟩
         · exact .inr ⟨hb, by simp [State.waitArm, hst, ft, e, State.advanceFrameTimer]⟩)

/-- Everything the arm of a busy tick can do, one case for each outcome of R122 to R136 and R151 to R155. -/
theorem State.busyArm_elim {P : State → Prop} (d : Drive) (s : State) (h : s.st.resting = false)
    (waitOver : s.st.reading = true → s.rxStream = [] → s.cfg.byteTimeout ≤ s.byteTimer + 1 →
      P ({ s with
          frameTimer :=
            if s.st = .readPayload ∨ s.st = .readChecksum then satTimer s.cfg.timerW (s.frameTimer + 1) else s.frameTimer
          st := .failed, status := .timeout, resLen := 0 }))
    (waitOn : s.st.reading = true → s.rxStream = [] → s.byteTimer + 1 < s.cfg.byteTimeout →
      P ({ s with
          frameTimer :=
            if s.st = .readPayload ∨ s.st = .readChecksum then satTimer s.cfg.timerW (s.frameTimer + 1) else s.frameTimer
          byteTimer := bumpTimer s.cfg.timerW s.byteTimer }))
    (header : ∀ b rest, s.st = .awaitHeader → s.rxStream = b :: rest → b = s.cfg.header →
      P ({ s with rxStream := rest, csum := s.csum ^^^ b, byteTimer := 0, st := .readLength }))
    (wrongHeader : ∀ b rest, s.st = .awaitHeader → s.rxStream = b :: rest → b ≠ s.cfg.header →
      P ({ s with rxStream := rest, st := .failed, status := .headerMismatch, resLen := 0 }))
    (tooLong : ∀ b rest, s.st = .readLength → s.rxStream = b :: rest → s.cap.toNat < b.toNat →
      P ({ s with rxStream := rest, st := .failed, status := .lengthInvalid, resLen := 0 }))
    (length : ∀ b rest, s.st = .readLength → s.rxStream = b :: rest → b.toNat ≤ s.cap.toNat →
      P ({ s with
          rxStream := rest, csum := s.csum ^^^ b, len := b, idx := 0, byteTimer := 0, frameTimer := 0
          st := if b = 0 then .readChecksum else .readPayload }))
    (late : ∀ b rest, s.st = .readPayload → s.rxStream = b :: rest →
      s.cfg.frameDeadline < satTimer s.cfg.timerW (s.frameTimer + 1) →
      P ({ s with
          rxStream := rest, csum := s.csum ^^^ b, buf := memWrite s.buf s.idx.toNat b, idx := s.idx + 1
          frameTimer := satTimer s.cfg.timerW (s.frameTimer + 1), st := .failed, status := .timeout, resLen := 0 }))
    (payload : ∀ b rest, s.st = .readPayload → s.rxStream = b :: rest →
      satTimer s.cfg.timerW (s.frameTimer + 1) ≤ s.cfg.frameDeadline →
      P ({ s with
          rxStream := rest, csum := s.csum ^^^ b, buf := memWrite s.buf s.idx.toNat b, idx := s.idx + 1
          frameTimer := satTimer s.cfg.timerW (s.frameTimer + 1), byteTimer := 0
          st := if s.idx + 1 = s.len then .readChecksum else .readPayload }))
    (checksum : ∀ b rest, s.st = .readChecksum → s.rxStream = b :: rest →
      P ({ s with
          rxStream := rest, frameTimer := satTimer s.cfg.timerW (s.frameTimer + 1), rxChk := b, st := .validate }))
    (valid : s.st = .validate → s.csum = s.rxChk → P ({ s with st := .done, status := .ok, resLen := s.len }))
    (invalid : s.st = .validate → s.csum ≠ s.rxChk →
      P ({ s with st := .failed, status := .checksumMismatch, resLen := 0 }))
    (writeFailed : s.st.sending = true → d.txErr = true →
      P ({ s with st := .failed, status := .transportWriteFailed, resLen := 0 }))
    (stalled : s.st.sending = true → d.txErr = false → d.txReady = false → P s)
    (sentHeader : s.st = .txHeader → d.txErr = false → d.txReady = true →
      P ({ s with txStream := s.txStream ++ [s.cfg.header], csum := s.csum ^^^ s.cfg.header, st := .txLength }))
    (sentLength : s.st = .txLength → d.txErr = false → d.txReady = true →
      P ({ s with txStream := s.txStream ++ [s.len], csum := s.csum ^^^ s.len, st := .txPayload }))
    (sentPayload : s.st = .txPayload → d.txErr = false → d.txReady = true →
      P ({ s with
          txStream := s.txStream ++ [memRead s.buf s.idx.toNat], csum := s.csum ^^^ memRead s.buf s.idx.toNat
          idx := s.idx + 1, st := if s.idx + 1 = s.len then .txChecksum else .txPayload }))
    (sentChecksum : s.st = .txChecksum → d.txErr = false → d.txReady = true →
      P ({ s with txStream := s.txStream ++ [s.csum], st := .done, status := .ok, resLen := s.len })) :
    P (s.busyArm d) := by
  cases hst : s.st.reading with
  | true =>
    rw [State.busyArm_reading d s hst]
    rcases State.readArm_cases s with ⟨hrx, e⟩ | ⟨b, rest, hrx, e⟩
    · rw [e]
      rcases State.waitArm_cases s hst with ⟨hb, e⟩ | ⟨hb, e⟩
      · rw [e]; exact waitOver hst hrx hb
      · rw [e]; exact waitOn hst hrx hb
    · rw [e]
      rcases St.of_reading hst with hs | hs | hs | hs
      · rw [State.byteArm_awaitHeader _ _ (by exact hs)]
        rcases State.awaitHeaderByte_cases b ({ s with rxStream := rest } : State) with ⟨hc, e⟩ | ⟨hc, e⟩ <;> rw [e]
        · exact header b rest hs hrx hc
        · exact wrongHeader b rest hs hrx hc
      · rw [State.byteArm_readLength _ _ (by exact hs)]
        rcases State.readLengthByte_cases b ({ s with rxStream := rest } : State) with ⟨hc, e⟩ | ⟨hc, e⟩ <;> rw [e]
        · exact tooLong b rest hs hrx hc
        · exact length b rest hs hrx hc
      · rw [State.byteArm_readPayload _ _ (by exact hs)]
        rcases State.readPayloadByte_cases b ({ s with rxStream := rest } : State) with ⟨hc, e⟩ | ⟨hc, e⟩ <;> rw [e]
        · exact late b rest hs hrx hc
        · exact payload b rest hs hrx hc
      · rw [State.byteArm_readChecksum _ _ (by exact hs)]
        exact checksum b rest hs hrx
  | false =>
    cases hse : s.st.sending with
    | true =>
      rw [State.busyArm_sending d s hse]
      rcases State.sendArm_cases d.txReady d.txErr s with ⟨he, e⟩ | ⟨he, ha, e⟩ | ⟨he, ha, e⟩ <;> rw [e]
      · exact writeFailed hse he
      · unfold State.sentArm State.txData
        rcases St.of_sending hse with hs | hs | hs | hs <;> simp only [hs]
        · rw [← hs]; exact sentHeader hs he ha
        · rw [← hs]; exact sentLength hs he ha
        · rw [← hs]; exact sentPayload hs he ha
        · rw [← hs]; exact sentChecksum hs he ha
      · exact stalled hse he ha
    | false =>
      have hs : s.st = .validate := by
        revert h hst hse; cases s.st <;> decide
      rw [State.busyArm_validate d s hs]
      rcases State.validateArm_cases s with ⟨hc, e⟩ | ⟨hc, e⟩ <;> rw [e]
      · exact valid hs hc
      · exact invalid hs hc

/-! ## `idx + 1` on 8 bits (R114) -/

theorem BitVec8_succ (i : Byte) : i + 1 = BitVec.ofNat 8 (i.toNat + 1) := by
  apply BitVec.eq_of_toNat_eq; simp

theorem BitVec8_succ_eq_iff (i n : Byte) (h : i.toNat < n.toNat) : i + 1 = n ↔ i.toNat + 1 = n.toNat := by
  have := n.isLt
  rw [← BitVec.toNat_inj]
  simp
  omega

theorem BitVec8_succ_toNat (i n : Byte) (h : i.toNat < n.toNat) : (i + 1).toNat = i.toNat + 1 := by
  have := n.isLt
  simp
  omega

end Sys2Proof.Machine
end

