-- ==== Sys2Proof/Tests/Slice0.lean ====
section
/-! SUPPORT. Small tests: encodings written out from the spec, one step per instruction with the expected values of 95_test_vectors.md, and for each statement with hypotheses a witness that meets them. -/

namespace Sys2Proof.Tests

open Sys2Proof.Machine

/-- What an outcome leaves, if it is a next state. -/
def after : Host.Outcome State Fault Refusal → Option State
  | .next s => some s
  | .fault _ => none
  | .refused _ => none

/-- The small parameters of the S vectors: BYTE_TIMEOUT 4, FRAME_DEADLINE 6 (95_test_vectors.md section 2.3). -/
def small : Config := { byteTimeout := 4, frameDeadline := 6, timerW := 4 }

/-- The machine after reset in a given state of `st`, with the small parameters. -/
def inState (st : St) : State := { State.reset with cfg := small, st := st }

/-- `buf[0..1]` = 4F 4B, as the sender vectors preset it. -/
def okBuffer : Memory := [(0, 0x4F), (1, 0x4B)]

/-- A payload of `n` zero bytes. -/
def zeros (n : Nat) : List Byte := List.replicate n 0

theorem zeros_length (n : Nat) : (zeros n).length = n := List.length_replicate

/-! ## WellFormed refuses -/

theorem test_wellFormed_refuses_long_frame : (Instr.frame (zeros 256) 0).wellFormed = false := by
  simp [Instr.wellFormed, zeros_length]

theorem test_wellFormed_takes_longest_frame : (Instr.frame (zeros 255) 0).wellFormed = true := by
  simp [Instr.wellFormed, zeros_length]

/-! ## Words written out from the encodings of 30_encoding.md -/

/-- `RECV 16` (M3): bit 9 = 0, bits 8:0 = 16. -/
theorem test_decode_recv : decodeCmd 0b0000010000 = .recv 16 := by decide

/-- `SEND 256` (M12): bit 9 = 1, bits 8:0 = 256. -/
theorem test_decode_send : decodeCmd 0b1100000000 = .send 256 := by decide

/-- `BUFWR 254, 0x7E` (B7): bit 16 = 1, address FE, byte 7E. -/
theorem test_decode_bufwr : decodeBufPort 0b11111111001111110 = .bufwr 254 0x7E := by decide

/-- `BUFRD 1` with 0x81 on `buf_wdata`: bit 16 = 0. -/
theorem test_decode_bufrd : decodeBufPort 0b00000000110000001 = .bufrd 1 0x81 := by decide

/-- Frame K9 with one byte after it: the length byte says where it ends. -/
theorem test_decode_frame :
    decodeWire 0xAA [0xAA, 0x02, 0x4F, 0x4B, 0xAC, 0x07] = .ok (.frame [0x4F, 0x4B] 0xAC, [0x07]) := by decide

theorem test_decode_refuses_other_header : decodeWire 0xAA [0xAB, 0x00, 0xAB] = .error (.headerMismatch 0xAB) := by
  decide

theorem test_decode_refuses_truncated : decodeWire 0xAA [0xAA, 0x02, 0x4F, 0x4B] = .error .truncated := by decide

/-- The rows' own words, numbered as the opcode table numbers them. -/
theorem test_table_words :
    decodeTableWord 16 0x010 = some (.recv 16) ∧ decodeTableWord 16 0x202 = some (.send 2) ∧
    decodeTableWord 24 0x1004F = some (.bufwr 0 0x4F) ∧ decodeTableWord 24 0x00100 = some (.bufrd 1 0) ∧
    decodeTableWord 16 0x02AA = some (.frame [0, 0] 0) ∧ decodeTableWord 8 0xAA = some (.frame [] 0) := by decide

/-- The very next step after placing a word runs it: a receive starts, a send starts, a write lands, a frame's first
byte is taken. -/
theorem test_placed_words_run :
    (after (step (State.reset.withFetchWord 16 0x010))).map (fun t => (t.st, t.cap)) = some (.awaitHeader, 16) ∧
    (after (step (State.reset.withFetchWord 16 0x202))).map (fun t => (t.st, t.len)) = some (.txHeader, 2) ∧
    (after (step (State.reset.withFetchWord 24 0x1004F))).map (fun t => t.buf) = some [(0, 0x4F)] ∧
    (after (step (State.reset.withFetchWord 16 0x02AA))).map (fun t => (t.st, t.csum)) = some (.readLength, 0xAA) := by
  decide

/-! ## One step per instruction, expected values from 95_test_vectors.md -/

/-- M6: `RECV 300` has capacity 255. -/
theorem test_recv_caps_at_255 :
    (after (exec (.recv 300) State.reset)).map (fun t => (t.st, t.cap, t.status)) = some (.awaitHeader, 255, .none) := by
  decide

/-- M16: `RECV 0` in Failed replaces the old failure. -/
theorem test_recv_0 :
    (after (exec (.recv 0) { State.reset with st := .failed, status := .timeout })).map (fun t => (t.st, t.status)) =
      some (.failed, .invalidLength) := by decide

/-- M11: `SEND 255` is in range. -/
theorem test_send_255 :
    (after (exec (.send 255) State.reset)).map (fun t => (t.st, t.len, t.txData)) = some (.txHeader, 255, 0xAA) := by
  decide

/-- M12: `SEND 256` is not. -/
theorem test_send_256 :
    (after (exec (.send 256) State.reset)).map (fun t => (t.st, t.status)) = some (.failed, .invalidLength) := by decide

/-- B8: a write in Failed lands and leaves `status`. -/
theorem test_bufwr_lands :
    (after (exec (.bufwr 0 0x01) { State.reset with st := .failed, status := .checksumMismatch })).map
      (fun t => (t.buf, t.status)) = some ([(0, 0x01)], .checksumMismatch) := by decide

/-- B1: address 255 is not implemented. -/
theorem test_bufwr_255_dropped : (after (exec (.bufwr 255 0x12) State.reset)).map (fun t => t.buf) = some [] := by
  decide

/-- B4: the entry is on `buf_rdata`. -/
theorem test_bufrd_entry :
    (after (exec (.bufrd 0 0) { State.reset with buf := okBuffer })).map (fun t => t.hostRdata) = some 0x4F := by decide

/-- B3: 0x00 while busy. -/
theorem test_bufrd_busy :
    (after (exec (.bufrd 0 0) { State.reset with buf := okBuffer, st := .txPayload, hostRdata := 1 })).map
      (fun t => t.hostRdata) = some 0 := by decide

/-- V1: frame K9 into `RECV 16`. -/
theorem test_frame_ok :
    (after (exec (.frame [0x4F, 0x4B] 0xAC) { State.reset with st := .awaitHeader, cap := 16 })).map
      (fun t => (t.status, t.resLen, t.buf, t.frameTimer)) = some (.ok, 2, okBuffer, 3) := by decide

/-- V4: a frame of 10 payload bytes into `RECV 5`; 11 bytes stay in the Transport. -/
theorem test_frame_beyond_capacity :
    (after (exec (.frame [0, 1, 2, 3, 4, 5, 6, 7, 8, 9] 0xA1) { State.reset with st := .awaitHeader, cap := 5 })).map
      (fun t => (t.status, t.buf, t.rxStream)) =
        some (.lengthInvalid, [], [0, 1, 2, 3, 4, 5, 6, 7, 8, 9, 0xA1]) := by decide

/-! ## Single ticks of the machine's own arms -/

/-- Vector S2 at tick 9: the last payload byte in time for its window and late for the deadline is stored and folded,
then Timeout; `bt` stays. -/
theorem test_tick_late_byte :
    let t := after (step
        { inState .readPayload with
          len := 2, idx := 1, csum := 0xB8, byteTimer := 3, frameTimer := 6, buf := [(0, 0x10)], rxStream := [0x20, 0x98] })
    t.map (fun t => (t.status, t.buf, t.csum)) = some (.timeout, [(0, 0x10), (1, 0x20)], 0x98) ∧
    t.map (fun t => (t.idx, t.byteTimer, t.frameTimer, t.rxStream)) = some (2, 3, 7, [0x98]) := by decide

/-- Vector T8 at tick 3: `tx_err` beats `tx_ready`. -/
theorem test_tick_write_fails :
    (after (step
        { inState .txPayload with
          len := 2, csum := 0xA8, buf := okBuffer, script := [{ Drive.idle with txReady := true, txErr := true }] })).map
      (fun t => (t.status, t.txStream, t.csum, t.idx)) = some (.transportWriteFailed, [], 0xA8, 0) := by decide

/-- The big-step form of R139 on V1, V4, V12, V17, S1 and S2: status, length, tick, bytes consumed, bytes stored. -/
theorem test_verdicts :
    receiveVerdict {} 16 [(0, 0xAA), (0, 0x02), (0, 0x4F), (0, 0x4B), (0, 0xAC)] = ⟨.ok, 2, 6, 5, 2⟩ ∧
    receiveVerdict {} 5 [(0, 0xAA), (0, 0x0A), (0, 0x00)] = ⟨.lengthInvalid, 0, 2, 2, 0⟩ ∧
    receiveVerdict {} 16 [(4999999, 0xAA)] = ⟨.timeout, 0, 10000000, 1, 0⟩ ∧
    receiveVerdict {} 16
        [(0, 0xAA), (0, 0x03), (4899999, 0x11), (4899999, 0x22), (4899999, 0x33), (0, 0xA9)] =
      ⟨.timeout, 0, 14700002, 5, 3⟩ ∧
    receiveVerdict small 16 [(0, 0xAA), (0, 0x02), (2, 0x10), (2, 0x20), (0, 0x98)] = ⟨.ok, 2, 10, 5, 2⟩ ∧
    receiveVerdict small 16 [(0, 0xAA), (0, 0x02), (2, 0x10), (3, 0x20), (0, 0x98)] = ⟨.timeout, 0, 9, 4, 2⟩ := by
  decide

/-! ## Witnesses: concrete operands and states that meet the hypotheses of the statements -/

theorem witness_DecodeOfEncode :
    (Instr.recv 511).wellFormed = true ∧ (Instr.send 0).wellFormed = true ∧ (Instr.bufwr 255 0).wellFormed = true ∧
    (Instr.bufrd 0 255).wellFormed = true ∧ (Instr.frame [] 0).wellFormed = true ∧
    (Instr.frame (zeros 255) 0xAA).wellFormed = true := by simp [Instr.wellFormed, zeros_length]

theorem witness_EncodeOfDecode :
    decode 0xAA (.cmd 0x3FF) = .ok (.send 511, []) ∧ decode 0xAA (.bufPort 0) = .ok (.bufrd 0 0, []) ∧
    decode 0xAA (.wire [0xAA, 0x00, 0xAA, 0x07]) = .ok (.frame [] 0xAA, [0x07]) := by decide

theorem witness_FrameEndsWhereItsLengthSays :
    ([] : List Byte).length ≤ 255 ∧ (zeros 255).length ≤ 255 ∧ 257 < (zeros 255).length + 3 := by
  simp [zeros_length]

theorem witness_WrongHeaderIsNoFrame : (0xAB : Byte) ≠ 0xAA := by decide

theorem witness_ChecksumIsTheFold :
    (2 : Byte).toNat ≤ ([0x4F, 0x4B] : List Byte).length ∧
    ([0x4F, 0x4B, 1] : List Byte).take (2 : Byte).toNat = ([0x4F, 0x4B] : List Byte).take (2 : Byte).toNat ∧
    (0 : Byte).toNat ≤ ([] : List Byte).length := by decide

theorem witness_ChecksumIsParityPerBit : ([0x4F, 0x4B] : List Byte).length = (2 : Byte).toNat := by decide

theorem witness_WholeFrameFoldIsZero :
    1 ≤ ([0xFF] : List Byte).length ∧ encodeFrame 0xAA [0xFF] 1 = .ok [0xAA, 0x01, 0xFF, 0x54] ∧
    ([0x4F, 0x4B] : List Byte).length = (2 : Byte).toNat := by decide

/-- Lengths 0, 1, 255 and 256, each with enough bytes. -/
theorem witness_EncodeRange :
    ∀ n ∈ [0, 1, 255, 256], n ≤ (zeros 256).length := by simp [zeros_length]

theorem witness_ChecksumSeesEveryOddChange :
    ([0x4F, 0x4B] : List Byte).length = (2 : Byte).toNat ∧ validFrame 0xAA 2 [0x4F, 0x4B] 0xAC = true ∧
    xorFold ([0xAA, 2] ++ ([0x4F, 0x4B] ++ [0xAC])) ^^^ xorFold ([0xAA, 6] ++ ([0x4F, 0x4B] ++ [0xAC])) ≠ 0 ∧
    1 < ([0x4F, 0x4B] : List Byte).length := by decide

theorem witness_PayloadOrderIsUndetected :
    ([0x4F, 0x4B] : List Byte).length = (2 : Byte).toNat ∧ List.Perm ([0x4F, 0x4B] : List Byte) [0x4B, 0x4F] := by decide

theorem witness_AccumulatorComputesChecksum :
    (2 : Byte).toNat ≤ ([0x4F, 0x4B, 7] : List Byte).length ∧
    List.Perm ([0x4B, 2, 0xAA, 0x4F] : List Byte) (0xAA :: 2 :: ([0x4F, 0x4B, 7] : List Byte).take (2 : Byte).toNat) := by
  decide

theorem witness_OutputsFollowTheState :
    (inState .txHeader).st = .txHeader ∧ (inState .txLength).st = .txLength ∧ (inState .txPayload).st = .txPayload ∧
    (inState .txChecksum).st = .txChecksum ∧ (inState .idle).txValid = false ∧ (inState .validate).busy = true ∧
    (inState .done).busy = false ∧ (254 : Byte).toNat ≤ 254 := by decide

theorem witness_RecvStartsReceive :
    State.reset.cmdReady = true ∧ (inState .done).cmdReady = true ∧ (inState .failed).cmdReady = true ∧
    1 ≤ (1 : BitVec 9).toNat ∧ 1 ≤ (511 : BitVec 9).toNat := by decide

theorem witness_RecvZeroFails : State.reset.cmdReady = true := by decide

theorem witness_SendStartsSend :
    State.reset.cmdReady = true ∧ 1 ≤ (1 : BitVec 9).toNat ∧ (1 : BitVec 9).toNat ≤ 255 ∧ (255 : BitVec 9).toNat ≤ 255 := by
  decide

theorem witness_SendOutOfRangeFails :
    State.reset.cmdReady = true ∧ (0 : BitVec 9).toNat = 0 ∧ 256 ≤ (256 : BitVec 9).toNat ∧ 256 ≤ (511 : BitVec 9).toNat := by
  decide

theorem witness_CommandsAreIgnoredWhileBusy : (inState .readPayload).busy = true ∧ (inState .txHeader).busy = true := by
  decide

/-- Addresses 254 and 255, resting and busy. -/
theorem witness_HostWriteLands :
    exec (.bufwr 254 0x7E) State.reset = .next { State.reset with buf := [(254, 0x7E)] } ∧
    exec (.bufwr 255 0x7E) State.reset = .next State.reset ∧
    exec (.bufwr 0 0x7E) (inState .validate) = .next (inState .validate) := ⟨rfl, rfl, rfl⟩

theorem witness_RestingStatesBehaveAlike : St.idle.resting = true ∧ St.done.resting = true ∧ St.failed.resting = true := by
  decide

theorem witness_RestingBlockKeepsItsResult :
    (inState .done).st.resting = true ∧ (∀ d ∈ [Drive.idle].take 2, d.rst = false ∧ d.cmdPort = none) ∧
    ∃ t, run 2 { inState .done with script := [Drive.idle] } = .next t := ⟨rfl, by decide, _, rfl⟩

/-- A resting and a busy state, with a write and a `SEND 2` on the ports. -/
theorem witness_StepRunsDecodedInstruction :
    let d : Drive := { Drive.idle with bufPort := some 0x1004F, cmdPort := some 0x202 }
    d.rst = false ∧ ({ State.reset with script := [d] } : State).drive = d ∧
    ({ State.reset with script := [d] } : State).busy = false ∧ (inState .validate).busy = true ∧
    decode 0xAA (.bufPort 0x1004F) = .ok (.bufwr 0 0x4F, []) ∧ decode 0xAA (.cmd 0x202) = .ok (.send 2, []) ∧
    State.reset.drive.bufPort = none ∧ State.reset.drive.cmdPort = none := by decide

theorem witness_WriteAndSendInOneTick :
    let s : State := { State.reset with script := [{ Drive.idle with bufPort := some 0x1014B, cmdPort := some 0x202 }] }
    s.drive.rst = false ∧ s.busy = false ∧ s.drive.bufPort = some (1#1 ++ (1 : Byte) ++ (0x4B : Byte)) ∧
    s.drive.cmdPort = some (1#1 ++ (2 : BitVec 9)) ∧ 1 ≤ (2 : BitVec 9).toNat ∧ (2 : BitVec 9).toNat ≤ 255 := by decide

theorem witness_AwaitHeaderTakesAByte :
    let s : State := { inState .awaitHeader with rxStream := [0xAA, 0x02] }
    s.drive.rst = false ∧ s.st = .awaitHeader ∧ s.arrive.rxStream = 0xAA :: [0x02] := by decide

/-- Capacity 1 against length 1 and length 2. -/
theorem witness_ReadLengthTakesAByte :
    let s : State := { inState .readLength with cap := 1, rxStream := [1] }
    let s' : State := { inState .readLength with cap := 1, rxStream := [2] }
    s.drive.rst = false ∧ s.st = .readLength ∧ s.arrive.rxStream = 1 :: [] ∧ s'.arrive.rxStream = 2 :: [] := by decide

/-- The deadline 6 with 5 and with 6 ticks behind. -/
theorem witness_ReadPayloadTakesAByte :
    let s : State := { inState .readPayload with len := 2, idx := 1, frameTimer := 5, rxStream := [0x20] }
    let s' : State := { inState .readPayload with len := 2, idx := 1, frameTimer := 6, rxStream := [0x20] }
    s.drive.rst = false ∧ s.st = .readPayload ∧ s.idx.toNat < s.len.toNat ∧ s.arrive.rxStream = 0x20 :: [] ∧
    s'.drive.rst = false ∧ s'.st = .readPayload ∧ s'.idx.toNat < s'.len.toNat ∧ s'.arrive.rxStream = 0x20 :: [] := by
  decide

theorem witness_ReadChecksumTakesAByte :
    let s : State := { inState .readChecksum with script := [{ Drive.idle with rxArrive := [0xAC] }] }
    s.drive.rst = false ∧ s.st = .readChecksum ∧ s.arrive.rxStream = 0xAC :: [] := by decide

/-- The end of `AA 00 AA`: equal, and where R38 holds. -/
theorem witness_ValidateGivesTheVerdict :
    let s : State := { inState .validate with cap := 1, csum := 0xAA, rxChk := 0xAA }
    s.drive.rst = false ∧ s.st = .validate ∧ s.csum = s.rxChk ∧ s.RegistersAgree :=
  ⟨rfl, rfl, rfl, by decide, by decide, by decide, by decide, by decide, by decide, by decide, by decide, by decide,
    by decide⟩

/-- BYTE_TIMEOUT 4 with 2 and with 3 empty ticks behind, in two reading states. -/
theorem witness_WaitingForAByte :
    ∀ s ∈ [{ inState .awaitHeader with byteTimer := 2 }, { inState .readPayload with byteTimer := 3 }],
      State.drive s = Drive.idle ∧ s.st.reading = true ∧ s.arrive.rxStream = [] ∧ s.cfg.wf ∧
      s.byteTimer < s.cfg.byteTimeout := by decide

/-- Three empty ticks, and the fourth. -/
theorem witness_WaitWindow :
    let s := inState .awaitHeader
    s.cfg.wf ∧ s.st.reading = true ∧ s.byteTimer = 0 ∧ s.rxStream = [] ∧
    (∀ d ∈ s.script.take 4, d.rst = false ∧ d.rxArrive = []) ∧ (after (run 3 s)).isSome = true ∧
    (after (run 4 s)).isSome = true := by decide

theorem witness_FrameIsARunOfTicks : State.reset.script = [] ∧ (zeros 255).length ≤ 255 :=
  ⟨rfl, by simp [zeros_length]⟩

/-- A payload as long as the capacity and as the deadline, and the empty payload. -/
theorem witness_PromptFrameIsReceived :
    let s : State := { inState .awaitHeader with cap := 6 }
    s.cfg.wf ∧ s.st = .awaitHeader ∧ s.csum = 0 ∧ s.rxStream = [] ∧
    (zeros 6).length ≤ s.cap.toNat ∧ (zeros 6).length ≤ s.cfg.frameDeadline ∧
    ([] : List Byte).length ≤ s.cap.toNat ∧ ([] : List Byte).length ≤ s.cfg.frameDeadline := by decide

theorem witness_FrameTooLongIsLeftBehind :
    let s : State := { inState .awaitHeader with cap := 254 }
    s.st = .awaitHeader ∧ s.rxStream = [] ∧ s.cap.toNat < (zeros 255).length ∧
    (zeros 255).length ≤ 255 := ⟨rfl, rfl, by simp [zeros_length], by simp [zeros_length]⟩

theorem witness_FramePastTheDeadlineTimesOut :
    let s : State := { inState .awaitHeader with cap := 7 }
    s.cfg.wf ∧ s.st = .awaitHeader ∧ s.csum = 0 ∧ s.rxStream = [] ∧
    (zeros 7).length ≤ s.cap.toNat ∧ s.cfg.frameDeadline < (zeros 7).length := by
  decide

theorem witness_FrameNotAskedForStays :
    State.reset.rxReady = false ∧ State.reset.st ≠ .validate ∧ (inState .txPayload).rxReady = false ∧
    (inState .txPayload).st ≠ .validate := by decide

/-- A byte held by the Transport, one that comes two ticks later, and a host that offers a command meanwhile. -/
theorem witness_ReceiveFollowsItsVerdict :
    let s : State :=
      { inState .idle with
        rxStream := [0xAA], script := [Drive.idle, { Drive.idle with cmdPort := some 0 }, { Drive.idle with rxArrive := [2] }] }
    s.cfg.wf ∧ s.cmdReady = true ∧ 1 ≤ (511 : BitVec 9).toNat ∧
    ∃ s1, exec (.recv 511) s = .next s1 ∧ noLoss s1.script ∧ metStream 0 s1.rxStream s1.script = [(0, 0xAA), (1, 2)] :=
  ⟨by decide, rfl, by decide, _, rfl, by intro d h; revert d; decide, by decide⟩

theorem witness_ReceiveEndsInTime :
    (inState .failed).cfg.wf ∧ (inState .failed).cmdReady = true ∧ 1 ≤ (1 : BitVec 9).toNat ∧
    ∃ s1, exec (.recv 1) (inState .failed) = .next s1 ∧ noReset 19 s1.script :=
  ⟨by decide, rfl, by decide, _, rfl, fun _ h => nomatch h⟩

theorem witness_ReceiveDoesNotReadTheBuffer :
    (inState .readPayload).st.reading = true ∧ (∃ t, step { inState .readPayload with rxStream := [7] } = .next t) ∧
    ∃ t, step (inState .validate) = .next t := ⟨rfl, ⟨_, rfl⟩, _, rfl⟩

/-- Each answer of the Transport, and the four sending states. -/
theorem witness_SendingTick :
    (∀ st ∈ [St.txHeader, .txLength, .txPayload, .txChecksum], st.sending = true) ∧
    (∀ d ∈ [{ Drive.idle with txErr := true }, Drive.idle, { Drive.idle with txReady := true }],
      ({ inState .txPayload with len := 1, script := [d] } : State).drive.rst = false) ∧
    ({ inState .txPayload with len := 1 } : State).idx.toNat < ({ inState .txPayload with len := 1 } : State).len.toNat := by
  decide

theorem witness_BusyTickKeepsTheBuffer :
    (inState .readPayload).busy = true ∧ ∃ t, step { inState .readPayload with rxStream := [7] } = .next t := ⟨rfl, _, rfl⟩

/-- `SEND 1` of `buf[0]` = 4F, and a Transport that takes four bytes. -/
def sendOne : State :=
  { State.reset with
    cfg := small, buf := okBuffer, script := List.replicate 4 { Drive.idle with txReady := true } }

theorem witness_SendToAReadyTransport :
    sendOne.cmdReady = true ∧
    encodeFrame sendOne.cfg.header (bufBytes sendOne.buf (1 : BitVec 9).toNat) (1 : BitVec 9).toNat =
      .ok [0xAA, 0x01, 0x4F, 0xE4] ∧
    ∃ s1, exec (.send 1) sendOne = .next s1 ∧ s1.script = List.replicate 4 { Drive.idle with txReady := true } ∧
      takesAll 4 s1.script :=
  ⟨rfl, by decide, _, rfl, rfl, by decide, by decide⟩

/-- The run of zero ticks and of one tick of the same send. -/
theorem witness_SentBytesFollowTheEncodedFrame :
    ∃ s1, exec (.send 1) sendOne = .next s1 ∧ noReset 1 s1.script ∧ s1.busy = true ∧ run 0 s1 = .next s1 ∧
      ∃ t, run 1 s1 = .next t :=
  ⟨_, rfl, by intro d h; revert d; decide, rfl, rfl, _, rfl⟩

/-- A send that waits a tick for its first answer; and its frame, met by a `RECV 1`: a byte held, an empty tick, and
the others at the limit (FRAME_DEADLINE 6 is not reached, BYTE_TIMEOUT 4 nearly is), with a stray byte behind. -/
theorem witness_RoundTrip :
    let s : State := { sendOne with script := Drive.idle :: sendOne.script }
    let r : State :=
      { inState .idle with
        rxStream := [0xAA], script := List.replicate 4 Drive.idle ++ [{ Drive.idle with rxArrive := [0x01, 0x4F, 0xE4, 7] }] }
    r.cfg.wf ∧ r.cfg.header = s.cfg.header ∧ s.cmdReady = true ∧ r.cmdReady = true ∧
    ∃ s1 t r1, exec (.send 1) s = .next s1 ∧ noReset 5 s1.script ∧
      (∀ j ∈ List.range 5, (after (run j s1)).map State.busy = some true) ∧ run 5 s1 = .next t ∧ t.st = .done ∧
      exec (.recv 1) r = .next r1 ∧ noLoss r1.script ∧
      r1.rxStream ++ arrivals r1.script = t.txStream.drop s.txStream.length ++ [7] ∧
      inTime r.cfg 1 (metStream 0 r1.rxStream r1.script) :=
  ⟨by decide, rfl, rfl, rfl, _, _, _, rfl, by intro d h; revert d; decide, by decide, rfl, rfl, rfl,
    by intro d h; revert d; decide, by decide, by decide, by decide⟩

theorem witness_FailuresComeFromTheirSources :
    (inState .awaitHeader).drive.rst = false ∧ (inState .awaitHeader).busy = true ∧
    ∃ t, step { inState .awaitHeader with rxStream := [0x55] } = .next t ∧ t.st = .failed := ⟨rfl, rfl, _, rfl, rfl⟩

theorem witness_StateGraphIsComplete : State.reset.drive.rst = false ∧ ∃ t, step State.reset = .next t := ⟨rfl, _, rfl⟩

theorem witness_RestingBlockTouchesNoStream :
    State.reset.drive.rst = false ∧ State.reset.st.resting = true ∧
    ∃ t, step { State.reset with rxStream := [0xAA], script := [{ Drive.idle with cmdPort := some 0x010 }] } = .next t :=
  ⟨rfl, rfl, _, rfl⟩

/-- A block in ReadPayload with a byte offered, at a reset tick (E3). -/
def resetting : State :=
  { inState .readPayload with len := 2, rxStream := [0x4B], script := List.replicate 2 { Drive.idle with rst := true } }

theorem witness_ResetTick : resetting.drive.rst = true := rfl

theorem witness_ResetTickStreams : resetting.drive.rst = true ∧ ∃ t, step resetting = .next t ∧ t.rxStream = [] :=
  ⟨rfl, _, rfl, rfl⟩

theorem witness_ConsecutiveResets :
    1 + 1 ≤ resetting.script.length ∧ (∀ d ∈ resetting.script.take (1 + 1), d.rst = true) ∧
    (∃ u, step resetting = .next u) ∧ ∃ t, run (1 + 1) resetting = .next t :=
  ⟨by decide, by decide, ⟨_, rfl⟩, _, rfl⟩

/-- A busy receive, with a command offered in one of two drives that are otherwise alike. -/
theorem witness_UnreadInputsDoNotMatter :
    let s := inState .readPayload
    let d : Drive := Drive.idle
    let d' : Drive := { Drive.idle with cmdPort := some 0x202, bufPort := some 0x1004F, txReady := true }
    d.rst = d'.rst ∧ d.rxLose = d'.rxLose ∧ d.rxArrive = d'.rxArrive ∧ s.busy = true ∧ s.txValid = false ∧
    d.bufPort.any (fun w => !w.getLsbD 16) = d'.bufPort.any (fun w => !w.getLsbD 16) := by decide

theorem witness_ResetMeetsTheInvariant : ({} : Config).wf ∧ small.wf ∧ Memory.wf okBuffer = true := by decide

/-- A busy state that meets the invariant: a receive in ReadPayload after `AA 02`. -/
def receiving : State := { inState .readPayload with cap := 16, len := 2, csum := 0xA8, rxStream := [0x4F] }

theorem witness_StepKeepsTheInvariant : receiving.Inv ∧ ∃ t, step receiving = .next t :=
  ⟨⟨by decide, ⟨by decide, by decide, by decide, by decide, by decide, by decide, by decide, by decide, by decide, by decide⟩,
    by decide, by decide, by decide, by decide, by decide⟩, _, rfl⟩

theorem witness_RegistersAgreeAfterReset :
    small.wf ∧ Memory.wf okBuffer = true ∧
    ∃ t, run 1 { State.reset with
        cfg := small, buf := okBuffer, rxStream := [0xAA], script := [{ Drive.idle with cmdPort := some 0x010 }] } = .next t :=
  ⟨by decide, by decide, _, rfl⟩

theorem witness_WriteTickShowsTheOldEntry :
    let s : State := { State.reset with buf := okBuffer, script := [{ Drive.idle with bufPort := some 0x10055 }] }
    s.drive.rst = false ∧ s.busy = false ∧ s.drive.bufPort = some (1#1 ++ (0 : Byte) ++ (0x55 : Byte)) ∧
    (s.outputs 0).bufRdata = 0x4F := by decide

end Sys2Proof.Tests
end

section
/-! Proofs about the state: the kinds of states, the outputs, and what each port and tick leaves unchanged. -/

namespace Sys2Proof.Machine

/-! ## The kinds of states as lists of states -/

theorem St.resting_iff (x : St) : x.resting = true ↔ x = .idle ∨ x = .done ∨ x = .failed := by
  cases x <;> decide

theorem St.reading_iff (x : St) :
    x.reading = true ↔ x = .awaitHeader ∨ x = .readLength ∨ x = .readPayload ∨ x = .readChecksum :=
  ⟨St.of_reading, by rintro (rfl | rfl | rfl | rfl) <;> rfl⟩

theorem St.sending_iff (x : St) :
    x.sending = true ↔ x = .txHeader ∨ x = .txLength ∨ x = .txPayload ∨ x = .txChecksum :=
  ⟨St.of_sending, by rintro (rfl | rfl | rfl | rfl) <;> rfl⟩

theorem State.busy_eq_false_iff (s : State) : s.busy = false ↔ s.st.resting = true := by
  simp [State.busy_eq]

/-- The block is busy in every state but Idle, Done and Failed (R29, R30). -/
theorem State.busy_iff (s : State) : s.busy = true ↔ s.st ≠ .idle ∧ s.st ≠ .done ∧ s.st ≠ .failed := by
  rw [State.busy_eq, Bool.not_eq_true', Bool.eq_false_iff, ne_eq, St.resting_iff]
  tauto

/-- The failure codes of R68 are those from 2 on. -/
theorem Status.two_le_code_iff (x : Status) : 2 ≤ x.code.toNat ↔ x ≠ .none ∧ x ≠ .ok := by
  cases x <;> decide

theorem Failure.two_le_code (e : Failure) : 2 ≤ e.status.code.toNat := by
  cases e <;> decide

/-! ## The outputs that are not a kind of state -/

theorem State.txData_of_txHeader (s : State) (h : s.st = .txHeader) : s.txData = s.cfg.header := by
  rw [State.txData, h]

theorem State.txData_of_txLength (s : State) (h : s.st = .txLength) : s.txData = s.len := by
  rw [State.txData, h]

theorem State.txData_of_txPayload (s : State) (h : s.st = .txPayload) : s.txData = memRead s.buf s.idx.toNat := by
  rw [State.txData, h]

theorem State.txData_of_txChecksum (s : State) (h : s.st = .txChecksum) : s.txData = s.csum := by
  rw [State.txData, h]

/-- `tx_data` is 0x00 while no byte is offered (R33). -/
theorem State.txData_of_not_sending (s : State) (h : s.txValid = false) : s.txData = 0 := by
  unfold State.txValid at h
  unfold State.txData
  cases hst : s.st <;> first | rfl | (rw [hst] at h; exact absurd h (by decide))

/-- `buf_rdata` shows an entry at an implemented address of a block that is not busy, and 0x00 otherwise (R35, R45). -/
theorem State.bufRdata_eq (s : State) (a : Byte) :
    s.bufRdata a = if s.busy = false ∧ a.toNat ≤ 254 then memRead s.buf a.toNat else 0 := by
  unfold State.bufRdata
  cases hb : s.busy with
  | true => rfl
  | false =>
    by_cases ha : a.toNat ≤ 254
    · simp [ha]
    · simp [ha, memRead]

theorem State.bufRdata_of_not_busy (s : State) (a : Byte) (h : s.busy = false) :
    s.bufRdata a = if a.toNat ≤ 254 then memRead s.buf a.toNat else 0 := by
  simp [State.bufRdata_eq, h]

/-! ## What ports and ticks leave unchanged -/

/-- The command port touches neither the buffer nor the host's sample (R82 to R86). -/
theorem State.cmdServed_frame (d : Drive) (s : State) :
    (s.cmdServed d).buf = s.buf ∧ (s.cmdServed d).hostRdata = s.hostRdata := by
  unfold State.cmdServed
  cases d.cmdPort with
  | none => exact ⟨rfl, rfl⟩
  | some w =>
    dsimp only
    split
    · rcases State.acceptSend_cases (w.extractLsb' 0 9) s with ⟨-, e⟩ | ⟨-, e⟩ <;> exact e ▸ ⟨rfl, rfl⟩
    · rcases State.acceptRecv_cases (w.extractLsb' 0 9) s with ⟨-, e⟩ | ⟨-, e⟩ <;> exact e ▸ ⟨rfl, rfl⟩

/-! ### The fields of a host write's triple (R69) -/

theorem bufwrWord_we (a v : Byte) : (1#1 ++ a ++ v : BufWord).getLsbD 16 = true := by
  rw [BitVec.getLsbD_append, BitVec.getLsbD_append]; rfl

theorem bufwrWord_addr (a v : Byte) : (1#1 ++ a ++ v : BufWord).extractLsb' 8 8 = a := by
  rw [BitVec.extractLsb'_append_eq_of_le (by decide), BitVec.extractLsb'_append_eq_right]

theorem bufwrWord_data (a v : Byte) : (1#1 ++ a ++ v : BufWord).extractLsb' 0 8 = v :=
  BitVec.extractLsb'_append_eq_right

/-- The buffer port of a block that is not busy serves a host write (R88). -/
theorem State.bufServed_write (d : Drive) (s : State) (a v : Byte) (hb : s.busy = false)
    (hd : d.bufPort = some (1#1 ++ a ++ v)) : s.bufServed d = { s with buf := memWrite s.buf a.toNat v } := by
  simp only [State.bufServed, hd, bufwrWord_we, bufwrWord_addr, bufwrWord_data, State.hostWrite, hb, if_true,
    Bool.false_eq_true, if_false]

/-- A receive that asks for no byte and gives no verdict leaves the offered bytes in the Transport (R31, R46). -/
theorem State.receiveAll_of_not_asking (s : State) (l : List Byte) (hr : s.rxReady = false) (hv : s.st ≠ .validate) :
    s.receiveAll l = { s with rxStream := l } := by
  cases l <;> simp [State.receiveAll, hr, hv]

theorem State.busyArm_cfg (d : Drive) (s : State) (h : s.st.resting = false) : (s.busyArm d).cfg = s.cfg := by
  apply State.busyArm_elim (P := fun t => t.cfg = s.cfg) d s h <;> intros <;> rfl

/-- What holds of every possible outcome of a step holds of its outcome. -/
theorem step_elim {P : State → Prop} {s t : State} (hstep : step s = .next t) (h : ∃ u, step s = .next u ∧ P u) :
    P t := by
  obtain ⟨u, hu, hP⟩ := h
  rw [hstep, Host.Outcome.next.injEq] at hu
  exact hu ▸ hP

/-- What every step keeps, every run keeps. -/
theorem run_keeps {P : State → Prop} (hP : ∀ s t, P s → step s = .next t → P t) (k : Nat) {s t : State} (hs : P s)
    (hrun : run k s = .next t) : P t := by
  induction k generalizing s with
  | zero =>
    rw [run_zero, Host.Outcome.next.injEq] at hrun
    exact hrun ▸ hs
  | succ k ih =>
    obtain ⟨u, hu⟩ := step_next s
    exact ih (hP s u hs hu) (run_succ_of_step hu k ▸ hrun)

end Sys2Proof.Machine
end

section
/-! The invariant, state by state: what it says in each state of `st`, and that every tick keeps it. -/

namespace Sys2Proof.Machine

/-! ## The invariant as one clause per state -/

/-- The part of the invariant that does not depend on `st`. -/
structure State.Sound (s : State) : Prop where
  legal : s.cfg.wf
  buffer : Memory.wf s.buf = true
  byteTimer : s.byteTimer < 2 ^ s.cfg.timerW
  frameTimer : s.frameTimer < 2 ^ s.cfg.timerW

/-- No result to report: the result registers in Idle and in every busy state (R38 (c), (d)). -/
abbrev State.NoResult (s : State) : Prop := s.status = .none ∧ s.resLen = 0

/-- What holds in every reading state: the byte wait has not run out, and the receive has room (R38 (h), R11). -/
abbrev State.Waiting (s : State) : Prop := s.byteTimer + 1 ≤ s.cfg.byteTimeout ∧ 1 ≤ s.cap.toNat

/-- What the invariant says in a given state of `st` (R38 read row by row). -/
abbrev State.ClauseAt (s : State) : St → Prop
  | .idle => s.NoResult
  | .awaitHeader => s.NoResult ∧ s.Waiting ∧ s.csum = 0
  | .readLength => s.NoResult ∧ s.Waiting ∧ s.csum = s.cfg.header
  | .readPayload =>
    s.NoResult ∧ s.Waiting ∧ s.idx.toNat < s.len.toNat ∧ s.len.toNat ≤ s.cap.toNat ∧ s.csum = s.foldSoFar
  | .readChecksum => s.NoResult ∧ s.Waiting ∧ s.idx = s.len ∧ s.csum = s.foldSoFar
  | .validate => s.NoResult ∧ s.idx = s.len ∧ s.csum = s.foldSoFar
  | .done => s.status = .ok
  | .failed => 2 ≤ s.status.code.toNat ∧ s.resLen = 0
  | .txHeader => s.NoResult ∧ 1 ≤ s.len.toNat ∧ s.idx = 0 ∧ s.csum = 0
  | .txLength => s.NoResult ∧ 1 ≤ s.len.toNat ∧ s.idx = 0 ∧ s.csum = s.cfg.header
  | .txPayload => s.NoResult ∧ 1 ≤ s.len.toNat ∧ s.idx.toNat < s.len.toNat ∧ s.csum = s.foldSoFar
  | .txChecksum => s.NoResult ∧ 1 ≤ s.len.toNat ∧ s.idx = s.len ∧ s.csum = s.foldSoFar

/-- The invariant says in each state what the row of that state says. -/
theorem State.Inv.clauseAt {s : State} (hs : s.Inv) : s.ClauseAt s.st := by
  obtain ⟨-, ⟨ok_iff, failure_iff, none_iff, resLen_done, payloadIdx, sendIdx, idx_len, wait, ⟨rx0, rx1, rxFold⟩,
    ⟨tx0, tx1, txFold⟩⟩, -, -, capacity, sendLength, sendStart⟩ := hs
  have resLen_eq (hd : s.st ≠ .done) : s.resLen = 0 := Decidable.of_not_not fun hr => hd (resLen_done hr)
  have busy (hb : s.st.resting = false) : s.NoResult :=
    ⟨none_iff.mpr (.inr (by rw [State.busy_eq, hb]; rfl)), resLen_eq (by rintro hd; rw [hd] at hb; cases hb)⟩
  have reading (hr : s.st.reading = true) {p : Prop} (hp : p) : s.NoResult ∧ s.Waiting ∧ p :=
    ⟨busy (St.not_resting_of_reading hr), ⟨wait hr, capacity hr⟩, hp⟩
  have sending (hr : s.st.sending = true) {p : Prop} (hp : p) : s.NoResult ∧ 1 ≤ s.len.toNat ∧ p :=
    ⟨busy (St.not_resting_of_sending hr), sendLength hr, hp⟩
  cases hst : s.st <;> rw [hst] at busy reading sending
  case idle => exact ⟨none_iff.mpr (.inl hst), resLen_eq (by simp [hst])⟩
  case done => exact ok_iff.mpr hst
  case failed => exact ⟨failure_iff.mpr hst, resLen_eq (by simp [hst])⟩
  case awaitHeader => exact reading rfl (rx0 hst)
  case readLength => exact reading rfl (rx1 hst)
  case readPayload =>
    obtain ⟨hlt, hle⟩ := payloadIdx hst
    exact reading rfl ⟨hlt, hle, rxFold (.inl hst)⟩
  case readChecksum => exact reading rfl ⟨idx_len (.inl hst), rxFold (.inr (.inl hst))⟩
  case validate => exact ⟨busy rfl, idx_len (.inr (.inl hst)), rxFold (.inr (.inr hst))⟩
  case txHeader => exact sending rfl ⟨sendStart (.inl hst), tx0 hst⟩
  case txLength => exact sending rfl ⟨sendStart (.inr hst), tx1 hst⟩
  case txPayload =>
    obtain ⟨hlt, -⟩ := sendIdx hst
    exact sending rfl ⟨hlt, txFold (.inl hst)⟩
  case txChecksum => exact sending rfl ⟨idx_len (.inr (.inr hst)), txFold (.inr hst)⟩

theorem State.Inv.sound {s : State} (hs : s.Inv) : s.Sound := by
  obtain ⟨legal, -, buffer, ⟨bt, ft⟩, -, -, -⟩ := hs
  exact ⟨legal, buffer, bt, ft⟩

/-- What each row says of the result registers: Done, Failed, or any other state (R38 (a) to (d)). -/
theorem State.ClauseAt.result {s : State} {x : St} (clause : s.ClauseAt x) :
    (x = .done ∧ s.status = .ok) ∨ (x = .failed ∧ 2 ≤ s.status.code.toNat ∧ s.resLen = 0) ∨
      ((x = .idle ∨ x.resting = false) ∧ s.NoResult) := by
  cases x
  case done => exact .inl ⟨rfl, clause⟩
  case failed => exact .inr (.inl ⟨rfl, clause⟩)
  case idle => exact .inr (.inr ⟨.inl rfl, clause⟩)
  all_goals exact .inr (.inr ⟨.inr rfl, clause.1⟩)

/-- The row of its state is all the invariant asks of a state beyond `State.Sound`. -/
theorem State.Inv.of_clauseAt {s : State} (hs : s.Sound) (clause : s.ClauseAt s.st) : s.Inv := by
  have results : (s.status = .ok ↔ s.st = .done) ∧ (2 ≤ s.status.code.toNat ↔ s.st = .failed) ∧
      (s.status = .none ↔ s.st = .idle ∨ s.busy = true) ∧ (s.resLen ≠ 0 → s.st = .done) := by
    rw [Status.two_le_code_iff, State.busy_eq]
    rcases clause.result with ⟨hst, hok⟩ | ⟨hst, hcode, hres⟩ | ⟨hst, hnone, hres⟩
    · simp [hst, hok, St.resting]
    · obtain ⟨hnone, hok⟩ := s.status.two_le_code_iff.mp hcode
      simp [hst, hnone, hok, hres, St.resting]
    · have hdone : s.st ≠ .done := by rintro hd; simp [hd, St.resting] at hst
      have hfailed : s.st ≠ .failed := by rintro hf; simp [hf, St.resting] at hst
      simp [hst, hnone, hres, hdone, hfailed]
  obtain ⟨ok_iff, failure_iff, none_iff, resLen_done⟩ := results
  refine ⟨hs.legal, ⟨ok_iff, failure_iff, none_iff, resLen_done, ?payloadIdx, ?sendIdx, ?idx_len, ?wait, ?rxCsum,
    ?txCsum⟩, hs.buffer, ⟨hs.byteTimer, hs.frameTimer⟩, ?capacity, ?sendLength, ?sendStart⟩
  case payloadIdx =>
    intro hst
    rw [hst] at clause
    obtain ⟨-, -, hlt, hle, -⟩ := clause
    exact ⟨hlt, hle⟩
  case sendIdx =>
    intro hst
    rw [hst] at clause
    obtain ⟨-, hlen, hlt, -⟩ := clause
    exact ⟨hlt, hlen⟩
  case idx_len => rintro (hst | hst | hst) <;> rw [hst] at clause <;> simp only [clause]
  case wait =>
    intro hread
    rcases St.of_reading hread with hst | hst | hst | hst <;> rw [hst] at clause <;>
      obtain ⟨-, ⟨hbyte, -⟩, -⟩ := clause <;> exact hbyte
  case rxCsum =>
    refine ⟨fun hst => ?_, fun hst => ?_, ?_⟩
    · rw [hst] at clause; simp only [clause]
    · rw [hst] at clause; simp only [clause]
    · rintro (hst | hst | hst) <;> rw [hst] at clause <;> simp only [clause]
  case txCsum =>
    refine ⟨fun hst => ?_, fun hst => ?_, ?_⟩
    · rw [hst] at clause; simp only [clause]
    · rw [hst] at clause; simp only [clause]
    · rintro (hst | hst) <;> rw [hst] at clause <;> simp only [clause]
  case capacity =>
    intro hread
    rcases St.of_reading hread with hst | hst | hst | hst <;> rw [hst] at clause <;>
      obtain ⟨-, ⟨-, hcap⟩, -⟩ := clause <;> exact hcap
  case sendLength =>
    intro hsend
    rcases St.of_sending hsend with hst | hst | hst | hst <;> rw [hst] at clause <;>
      obtain ⟨-, hlen, -⟩ := clause <;> exact hlen
  case sendStart => rintro (hst | hst) <;> rw [hst] at clause <;> simp only [clause]

/-! ## The arithmetic of the clauses -/

/-- Before the first payload byte the fold is that of the header and the length (R126, R153). -/
theorem State.foldSoFar_of_idx_zero {s : State} (h : s.idx = 0) : s.foldSoFar = s.cfg.header ^^^ s.len := by
  simp [State.foldSoFar, h, bufBytes]

/-- An index below the length reaches the length with the next byte or stays below it (R114). -/
theorem BitVec8_succ_eq_or_lt {i n : Byte} (h : i.toNat < n.toNat) : i + 1 = n ∨ (i + 1).toNat < n.toNat := by
  rw [BitVec8_succ_eq_iff i n h, BitVec8_succ_toNat i n h]
  omega

/-- One payload byte further, the fold has taken in the entry at the old index (R129, R154). -/
theorem State.foldSoFar_of_idx_succ {s t : State} (hcfg : t.cfg = s.cfg) (hlen : t.len = s.len)
    (hidx : t.idx = s.idx + 1) (hlt : s.idx.toNat < s.len.toNat)
    (hbuf : bufBytes t.buf s.idx.toNat = bufBytes s.buf s.idx.toNat) :
    t.foldSoFar = s.foldSoFar ^^^ memRead t.buf s.idx.toNat := by
  rw [State.foldSoFar, hcfg, hlen, hidx, BitVec8_succ_toNat _ _ hlt, bufBytes_succ, hbuf]
  simp [State.foldSoFar, BitVec.xor_assoc]

theorem satTimer_lt (w t : Nat) : satTimer w t < 2 ^ w := by
  have := Nat.two_pow_pos w
  unfold satTimer
  omega

theorem bumpTimer_lt (w t : Nat) : bumpTimer w t < 2 ^ w := Nat.mod_lt _ (Nat.two_pow_pos w)

/-- A byte wait that has not run out keeps the timer within its width, so it counts without a wrap (R6, R19). -/
theorem bumpTimer_of_waiting {c : Config} (hc : c.wf) {t : Nat} (h : t + 1 < c.byteTimeout) :
    bumpTimer c.timerW t = t + 1 := by
  obtain ⟨-, hb, -⟩ := hc
  exact Nat.mod_eq_of_lt (by omega)

/-- The capacity of an accepted RECV is at least 1 (R84). -/
theorem one_le_recvCapacity {n : BitVec 9} (h : n ≠ 0) : 1 ≤ (recvCapacity n).toNat := by
  have hn : n.toNat ≠ 0 := fun hn => h (BitVec.eq_of_toNat_eq hn)
  simp only [recvCapacity, maxPayload, BitVec.toNat_ofNat]
  omega

/-- The length of an accepted SEND is its operand (R86). -/
theorem sendLength_toNat {n : BitVec 9} (h : n.toNat ≤ 255) : (sendLength n).toNat = n.toNat := by
  simp only [sendLength, BitVec.extractLsb'_toNat, Nat.shiftRight_zero]
  omega

/-! ## The invariant under the parts of a tick -/

/-- The streams, the host's sample and the script do not matter to the invariant, nor does the buffer's content to a
resting block. -/
theorem State.Inv.of_ports {s : State} (hs : s.Inv) {m : Memory} (hm : Memory.wf m = true)
    (hbuf : s.st.resting = true ∨ m = s.buf) (r : Byte) (rx : List Byte) (ds : List Drive) :
    ({ s with buf := m, hostRdata := r, rxStream := rx, script := ds } : State).Inv := by
  obtain ⟨legal, -, bt, ft⟩ := hs.sound
  have clause := hs.clauseAt
  refine State.Inv.of_clauseAt ⟨legal, hm, bt, ft⟩ ?_
  rcases hbuf with hr | rfl
  · rcases (St.resting_iff s.st).mp hr with hst | hst | hst <;> simp only [hst] at clause ⊢ <;> exact clause
  · cases hst : s.st <;> simp only [hst] at clause ⊢ <;> exact clause

theorem State.Inv.sampled {s : State} (hs : s.Inv) : s.sampled.Inv :=
  hs.of_ports hs.buffer (.inr rfl) _ _ _

/-- A failed state meets the invariant whatever its hidden registers hold (R178). -/
theorem State.Inv.of_failed {s : State} (hs : s.Sound) (e : Failure) (hst : s.st = .failed)
    (hstatus : s.status = e.status) (hres : s.resLen = 0) : s.Inv := by
  refine State.Inv.of_clauseAt hs ?_
  rw [hst]
  exact ⟨hstatus ▸ e.two_le_code, hres⟩

/-- A finished state meets the invariant whatever its hidden registers hold (R136, R155). -/
theorem State.Inv.of_done {s : State} (hs : s.Sound) (hst : s.st = .done) (hstatus : s.status = .ok) : s.Inv := by
  refine State.Inv.of_clauseAt hs ?_
  rw [hst]
  exact hstatus

/-- An idle state with no result meets the invariant (R37). -/
theorem State.Inv.of_idle {s : State} (hs : s.Sound) (hst : s.st = .idle) (hres : s.NoResult) : s.Inv := by
  refine State.Inv.of_clauseAt hs ?_
  rw [hst]
  exact hres

/-- The registers right after reset, over every legal configuration, buffer and environment (R37). -/
theorem reset_inv {c : Config} {m : Memory} (hc : c.wf) (hm : Memory.wf m = true) (unread : List Byte)
    (script : List Drive) :
    ({ State.reset with cfg := c, buf := m, rxStream := unread, script := script } : State).Inv :=
  State.Inv.of_idle ⟨hc, hm, Nat.two_pow_pos _, Nat.two_pow_pos _⟩ rfl ⟨rfl, rfl⟩

theorem State.Inv.resetRegisters {s : State} (hs : s.Sound) : s.resetRegisters.Inv :=
  State.Inv.of_idle ⟨hs.legal, hs.buffer, Nat.two_pow_pos _, Nat.two_pow_pos _⟩ rfl ⟨rfl, rfl⟩

theorem State.Inv.step_reset {s : State} (hs : s.Inv) (hr : s.drive.rst = true) :
    ∃ t, step s = .next t ∧ t.Inv := by
  refine ⟨_, Machine.step_reset s hr, ?_⟩
  obtain ⟨r, e⟩ := State.resetHandshakes_cases s.drive s.arrive
  obtain ⟨legal, buffer, bt, ft⟩ := hs.sound
  rw [e]
  exact State.Inv.resetRegisters ⟨legal, buffer, bt, ft⟩

/-- A tick of a resting block keeps its state, ends in InvalidLength, or starts a receive or a send (R80 to R88). -/
theorem State.Inv.step_resting {s : State} (hs : s.Inv) (hr : s.drive.rst = false) (h : s.st.resting = true) :
    ∃ t, step s = .next t ∧ t.Inv := by
  obtain ⟨legal, buffer, bt, ft⟩ := hs.sound
  refine step_resting_elim s hr h fun m r hm => ⟨fun _ => ?_, ?_, fun n hn => ?_, fun n hn => ?_⟩
  · exact hs.of_ports (hm buffer) (.inl h) _ _ _
  · exact State.Inv.of_failed ⟨legal, hm buffer, bt, ft⟩ .invalidLength rfl rfl rfl
  · refine State.Inv.of_clauseAt ⟨legal, hm buffer, Nat.two_pow_pos _, Nat.two_pow_pos _⟩ ?_
    exact ⟨⟨rfl, rfl⟩, ⟨legal.1, one_le_recvCapacity hn⟩, rfl⟩
  · refine State.Inv.of_clauseAt ⟨legal, hm buffer, bt, ft⟩ ?_
    exact ⟨⟨rfl, rfl⟩, (sendLength_toNat hn.2).symm ▸ hn.1, rfl, rfl⟩

/-- Every outcome of the arm of a busy tick meets the invariant (R122 to R136, R151 to R155). -/
theorem State.Inv.busyArm {s : State} (hs : s.Inv) (d : Drive) (h : s.st.resting = false) : (s.busyArm d).Inv := by
  obtain ⟨legal, buffer, bt, ft⟩ := hs.sound
  have clause := hs.clauseAt
  have advanced := satTimer_lt s.cfg.timerW (s.frameTimer + 1)
  have advancedIf : (if s.st = .readPayload ∨ s.st = .readChecksum then satTimer s.cfg.timerW (s.frameTimer + 1)
      else s.frameTimer) < 2 ^ s.cfg.timerW := by
    split
    · exact advanced
    · exact ft
  have zero := Nat.two_pow_pos s.cfg.timerW
  apply State.busyArm_elim (P := State.Inv) d s h
  case waitOver =>
    intro _ _ _
    exact State.Inv.of_failed ⟨legal, buffer, bt, advancedIf⟩ .timeout rfl rfl rfl
  case waitOn =>
    intro hread _ hbyte
    have hbump := bumpTimer_of_waiting legal hbyte
    refine State.Inv.of_clauseAt ⟨legal, buffer, bumpTimer_lt _ _, advancedIf⟩ ?_
    dsimp only
    rw [hbump]
    rcases St.of_reading hread with hst | hst | hst | hst <;> rw [hst] at clause ⊢ <;>
      obtain ⟨cleared, ⟨-, hcap⟩, hrest⟩ := clause <;> exact ⟨cleared, ⟨hbyte, hcap⟩, hrest⟩
  case header =>
    intro b rest hst _ hb
    rw [hst] at clause
    obtain ⟨cleared, ⟨-, hcap⟩, hcsum⟩ := clause
    refine State.Inv.of_clauseAt ⟨legal, buffer, zero, ft⟩ ⟨cleared, ⟨legal.1, hcap⟩, ?_⟩
    simp [hcsum, hb]
  case wrongHeader =>
    intro _ _ _ _ _
    exact State.Inv.of_failed ⟨legal, buffer, bt, ft⟩ .headerMismatch rfl rfl rfl
  case tooLong =>
    intro _ _ _ _ _
    exact State.Inv.of_failed ⟨legal, buffer, bt, ft⟩ .lengthInvalid rfl rfl rfl
  case length =>
    intro b rest hst _ hb
    rw [hst] at clause
    obtain ⟨cleared, ⟨-, hcap⟩, hcsum⟩ := clause
    refine State.Inv.of_clauseAt ⟨legal, buffer, zero, zero⟩ ?_
    have hfold := State.foldSoFar_of_idx_zero (s := { s with len := b, idx := 0 }) rfl
    rw [← hcsum] at hfold
    by_cases hzero : b = 0
    · rw [if_pos hzero]
      exact ⟨cleared, ⟨legal.1, hcap⟩, hzero.symm, hfold.symm⟩
    · have hpos : b.toNat ≠ 0 := fun hn => hzero (BitVec.eq_of_toNat_eq hn)
      rw [if_neg hzero]
      exact ⟨cleared, ⟨legal.1, hcap⟩, Nat.pos_of_ne_zero hpos, hb, hfold.symm⟩
  case late =>
    intro _ _ _ _ _
    exact State.Inv.of_failed ⟨legal, Memory.wf_memWrite _ _ _ buffer, bt, advanced⟩ .timeout rfl rfl rfl
  case payload =>
    intro b rest hst _ _
    rw [hst] at clause
    obtain ⟨cleared, ⟨-, hcap⟩, hlt, hle, hcsum⟩ := clause
    have hidx : s.idx.toNat ≤ 254 := by have := s.len.isLt; omega
    refine State.Inv.of_clauseAt ⟨legal, Memory.wf_memWrite _ _ _ buffer, zero, advanced⟩ ?_
    have hfold := State.foldSoFar_of_idx_succ (s := s)
      (t := { s with buf := memWrite s.buf s.idx.toNat b, idx := s.idx + 1 }) rfl rfl rfl hlt
      (bufBytes_memWrite s.buf _ _ b le_rfl)
    rw [memRead_memWrite_self _ _ _ hidx, ← hcsum] at hfold
    by_cases hend : s.idx + 1 = s.len
    · rw [if_pos hend]
      exact ⟨cleared, ⟨legal.1, hcap⟩, hend, hfold.symm⟩
    · rw [if_neg hend]
      exact ⟨cleared, ⟨legal.1, hcap⟩, (BitVec8_succ_eq_or_lt hlt).resolve_left hend, hle, hfold.symm⟩
  case checksum =>
    intro b rest hst _
    rw [hst] at clause
    obtain ⟨cleared, -, hidx, hcsum⟩ := clause
    exact State.Inv.of_clauseAt ⟨legal, buffer, bt, advanced⟩ ⟨cleared, hidx, hcsum⟩
  case valid =>
    intro _ _
    exact State.Inv.of_done ⟨legal, buffer, bt, ft⟩ rfl rfl
  case invalid =>
    intro _ _
    exact State.Inv.of_failed ⟨legal, buffer, bt, ft⟩ .checksumMismatch rfl rfl rfl
  case writeFailed =>
    intro _ _
    exact State.Inv.of_failed ⟨legal, buffer, bt, ft⟩ .transportWriteFailed rfl rfl rfl
  case stalled =>
    intro _ _ _
    exact hs
  case sentHeader =>
    intro hst _ _
    rw [hst] at clause
    obtain ⟨cleared, hlen, hidx, hcsum⟩ := clause
    refine State.Inv.of_clauseAt ⟨legal, buffer, bt, ft⟩ ⟨cleared, hlen, hidx, ?_⟩
    simp [hcsum]
  case sentLength =>
    intro hst _ _
    rw [hst] at clause
    obtain ⟨cleared, hlen, hidx, hcsum⟩ := clause
    refine State.Inv.of_clauseAt ⟨legal, buffer, bt, ft⟩ ⟨cleared, hlen, ?_, ?_⟩
    · change s.idx.toNat < s.len.toNat
      rw [hidx]
      exact hlen
    · rw [State.foldSoFar_of_idx_zero (by exact hidx)]
      exact congrArg (· ^^^ s.len) hcsum
  case sentPayload =>
    intro hst _ _
    rw [hst] at clause
    obtain ⟨cleared, hlen, hlt, hcsum⟩ := clause
    refine State.Inv.of_clauseAt ⟨legal, buffer, bt, ft⟩ ?_
    have hfold := State.foldSoFar_of_idx_succ (s := s) (t := { s with idx := s.idx + 1 }) rfl rfl rfl hlt rfl
    rw [← hcsum] at hfold
    by_cases hend : s.idx + 1 = s.len
    · rw [if_pos hend]
      exact ⟨cleared, hlen, hend, hfold.symm⟩
    · rw [if_neg hend]
      exact ⟨cleared, hlen, (BitVec8_succ_eq_or_lt hlt).resolve_left hend, hfold.symm⟩
  case sentChecksum =>
    intro _ _ _
    exact State.Inv.of_done ⟨legal, buffer, bt, ft⟩ rfl rfl

/-- Every tick keeps the invariant: a reset tick, a tick of a resting block and a tick of a busy one (R80). -/
theorem State.Inv.step {s t : State} (hs : s.Inv) (hstep : step s = .next t) : t.Inv := by
  apply step_elim hstep
  cases hr : s.drive.rst with
  | true => exact hs.step_reset hr
  | false =>
    cases h : s.st.resting with
    | true => exact hs.step_resting hr h
    | false => exact ⟨_, step_busy s hr h, hs.sampled.busyArm s.drive h⟩

end Sys2Proof.Machine
end

section
/-! The obligations about the state, the outputs, the host's reads and the invariant. -/

namespace Sys2Proof.Machine

/-! ## The invariant (R38) -/

/-- Settles O57: the invariant read state by state, against every outcome of the three kinds of ticks. -/
theorem stepKeepsTheInvariant : Obligations.StepKeepsTheInvariant :=
  fun _ _ hs hstep => hs.step hstep

/-- Settles O58: the state after reset meets the invariant, and every step keeps it. -/
theorem registersAgreeAfterReset : Obligations.RegistersAgreeAfterReset := by
  intro c m unread script k t hc hm hrun
  have ht : t.Inv := run_keeps (fun _ _ hs hstep => State.Inv.step hs hstep) k (reset_inv hc hm unread script) hrun
  exact ht.registers

/-- Settles O56: an instance of `reset_inv`. -/
theorem resetMeetsTheInvariant : Obligations.ResetMeetsTheInvariant :=
  ⟨reset_inv (by decide) Memory.wf_reset [] [], fun _ _ hc hm => reset_inv hc hm [] []⟩

/-! ## The outputs (R29 to R36) -/

/-- Settles O15, one line of the port table at a time. -/
theorem outputsFollowTheState : Obligations.OutputsFollowTheState := by
  intro s a o
  refine ⟨s.busy_iff, (Bool.not_not _).symm, St.reading_iff s.st, St.sending_iff s.st,
    s.txData_of_txHeader, s.txData_of_txLength, s.txData_of_txPayload, s.txData_of_txChecksum, s.txData_of_not_sending,
    congrArg Status.code, congrArg Status.code, congrArg Status.code, congrArg Status.code, congrArg Status.code,
    congrArg Status.code, congrArg Status.code, congrArg Status.code, rfl, rfl, ?entry, ?zero⟩
  case entry =>
    intro hshown
    exact (s.bufRdata_eq a).trans (if_pos hshown)
  case zero =>
    intro hhidden
    refine (s.bufRdata_eq a).trans (if_neg ?_)
    rintro ⟨hbusy, ha⟩
    rcases hhidden with hbusy' | ha'
    · exact Bool.false_ne_true (hbusy.symm.trans hbusy')
    · omega

/-! ## Reads and writes of the host (R88, R89) -/

/-- Settles O22: the sample is `buf_rdata`. -/
theorem hostReadReturns : Obligations.HostReadReturns := by
  intro a ignored s
  rw [← State.bufRdata_eq]
  rfl

/-- Settles O59: the tick serves the write before the command port, which keeps the buffer and the host's sample. -/
theorem writeTickShowsTheOldEntry : Obligations.WriteTickShowsTheOldEntry := by
  intro s a v hr hbusy hport
  obtain ⟨hbuf, hsample⟩ := State.cmdServed_frame s.drive (s.arrive.bufServed s.drive)
  have hserved := State.bufServed_write s.drive s.arrive a v hbusy hport
  refine ⟨s.bufRdata_of_not_busy a hbusy, _, step_resting s hr (s.busy_eq_false_iff.mp hbusy), ?sample, ?entry⟩
  case sample =>
    rw [hsample, hserved]
    rfl
  case entry =>
    intro ht
    refine (State.bufRdata_of_not_busy _ a ht).trans ?_
    rw [hbuf, hserved]
    split
    · exact memRead_memWrite_self _ _ _ ‹_›
    · rfl

/-! ## Frames on the wire, and the configuration -/

/-- Settles O38: `receiveAll` only puts the bytes into the stream. -/
theorem frameNotAskedForStays : Obligations.FrameNotAskedForStays := by
  intro s p c hr hv
  exact congrArg Host.Outcome.next (s.receiveAll_of_not_asking _ hr hv)

/-- Settles O54: each kind of tick has a next state with the configuration it started from. -/
theorem stepIsTotal : Obligations.StepIsTotal := by
  intro s
  cases hr : s.drive.rst with
  | true =>
    obtain ⟨r, e⟩ := State.resetHandshakes_cases s.drive s.arrive
    exact ⟨_, step_reset s hr, by rw [e]; rfl⟩
  | false =>
    cases h : s.st.resting with
    | true => exact step_resting_elim s hr h fun _ _ _ => ⟨fun _ => rfl, rfl, fun _ _ => rfl, fun _ _ => rfl⟩
    | false => exact ⟨_, step_busy s hr h, State.busyArm_cfg s.drive s.sampled h⟩

end Sys2Proof.Machine
end

section
/-! Lemmas for the buffer and the streams: the host's write, a reset tick's handshakes, and what a busy tick does with the
buffer. -/

namespace Sys2Proof.Machine

/-- A step has one outcome (R80). -/
theorem step_unique {s t u : State} (hstep : step s = .next t) (h : step s = .next u) : t = u :=
  Host.Outcome.next.inj (hstep.symm.trans h)

/-! ## The ports of a resting block -/

/-- A host write lands at an implemented address of a block that is not busy, and is dropped otherwise (R45, R88). -/
theorem State.hostWrite_eq (a v : Byte) (s : State) :
    s.hostWrite a v = if s.busy = false ∧ a.toNat ≤ 254 then { s with buf := memWrite s.buf a.toNat v } else s := by
  unfold State.hostWrite
  cases hb : s.busy with
  | true => rfl
  | false =>
    by_cases ha : a.toNat ≤ 254
    · simp [ha]
    · simp [ha, memWrite]

/-! ### The fields of a SEND's word (R66) -/

theorem sendWord_op (n : BitVec 9) : (1#1 ++ n : CmdWord).getLsbD 9 = true := by
  rw [BitVec.getLsbD_append]; rfl

theorem sendWord_arg (n : BitVec 9) : (1#1 ++ n : CmdWord).extractLsb' 0 9 = n :=
  BitVec.extractLsb'_append_eq_right

/-- The command port serves a SEND whose argument is in range by starting the send (R86). -/
theorem State.cmdServed_send (d : Drive) (s : State) (n : BitVec 9) (hd : d.cmdPort = some (1#1 ++ n))
    (hn : 1 ≤ n.toNat ∧ n.toNat ≤ 255) :
    s.cmdServed d =
      { s with len := sendLength n, idx := 0, csum := 0, status := .none, resLen := 0, st := .txHeader } := by
  have hserved : s.cmdServed d = s.acceptSend n := by
    simp only [State.cmdServed, hd, sendWord_op, sendWord_arg, if_true]
  rcases State.acceptSend_cases n s with ⟨hout, -⟩ | ⟨-, e⟩
  · exact absurd hn hout
  · exact hserved.trans e

/-! ## The handshakes of a reset tick -/

/-- The handshakes of a reset tick, with the host's sample written out (R36, R202). -/
theorem State.resetHandshakes_eq (d : Drive) (s : State) :
    s.resetHandshakes d =
      { s with
        rxStream := if s.rxReady then s.rxStream.tail else s.rxStream
        txStream := if s.txValid && d.txReady && !d.txErr && d.txCounts then s.txStream ++ [s.txData] else s.txStream
        hostRdata := s.hostSeen d } := by
  unfold State.resetHandshakes State.hostSeen
  cases s.rxReady <;> cases (s.txValid && d.txReady && !d.txErr && d.txCounts) <;>
    (cases d.bufPort with
      | none => rfl
      | some w =>
        simp only [decodeBufPort]
        cases w.getLsbD 16 <;> rfl)

/-! ## The buffer under a tick of a busy block -/

/-- The arm of a busy tick leaves the buffer alone, or is ReadPayload storing the byte it takes at `idx`
(R41, R43, R129). -/
theorem State.busyArm_buf (d : Drive) (s : State) (h : s.st.resting = false) :
    (s.busyArm d).buf = s.buf ∨
      (s.st = .readPayload ∧ ∃ b, s.rxStream.head? = some b ∧
        (s.busyArm d).buf = memWrite s.buf s.idx.toNat b) := by
  apply State.busyArm_elim (P := fun t => t.buf = s.buf ∨ (s.st = .readPayload ∧ ∃ b, s.rxStream.head? = some b ∧
    t.buf = memWrite s.buf s.idx.toNat b)) d s h
  case late =>
    intro b rest hst hrx _
    exact .inr ⟨hst, b, by rw [hrx]; rfl, rfl⟩
  case payload =>
    intro b rest hst hrx _
    exact .inr ⟨hst, b, by rw [hrx]; rfl, rfl⟩
  all_goals intros; exact .inl rfl

/-! ## Ticks that do not read the buffer (R42) -/

/-- The same block with another buffer. -/
def State.withBuf (m : Memory) (s : State) : State := { s with buf := m }

@[simp] theorem State.withBuf_cfg (m : Memory) (s : State) : (s.withBuf m).cfg = s.cfg := rfl
@[simp] theorem State.withBuf_st (m : Memory) (s : State) : (s.withBuf m).st = s.st := rfl
@[simp] theorem State.withBuf_cap (m : Memory) (s : State) : (s.withBuf m).cap = s.cap := rfl
@[simp] theorem State.withBuf_len (m : Memory) (s : State) : (s.withBuf m).len = s.len := rfl
@[simp] theorem State.withBuf_idx (m : Memory) (s : State) : (s.withBuf m).idx = s.idx := rfl
@[simp] theorem State.withBuf_csum (m : Memory) (s : State) : (s.withBuf m).csum = s.csum := rfl
@[simp] theorem State.withBuf_rxChk (m : Memory) (s : State) : (s.withBuf m).rxChk = s.rxChk := rfl
@[simp] theorem State.withBuf_status (m : Memory) (s : State) : (s.withBuf m).status = s.status := rfl
@[simp] theorem State.withBuf_resLen (m : Memory) (s : State) : (s.withBuf m).resLen = s.resLen := rfl
@[simp] theorem State.withBuf_buf (m : Memory) (s : State) : (s.withBuf m).buf = m := rfl
@[simp] theorem State.withBuf_byteTimer (m : Memory) (s : State) : (s.withBuf m).byteTimer = s.byteTimer := rfl
@[simp] theorem State.withBuf_frameTimer (m : Memory) (s : State) : (s.withBuf m).frameTimer = s.frameTimer := rfl
@[simp] theorem State.withBuf_rxStream (m : Memory) (s : State) : (s.withBuf m).rxStream = s.rxStream := rfl
@[simp] theorem State.withBuf_txStream (m : Memory) (s : State) : (s.withBuf m).txStream = s.txStream := rfl
@[simp] theorem State.withBuf_hostRdata (m : Memory) (s : State) : (s.withBuf m).hostRdata = s.hostRdata := rfl
@[simp] theorem State.withBuf_script (m : Memory) (s : State) : (s.withBuf m).script = s.script := rfl

/-- At `s` the update `f` does not read the buffer: with any other buffer it does the same to every other field, and
the buffer keeps its entries or gets one write, at an address and of a byte that do not depend on it. -/
def State.BufferUnread (f : State → State) (s : State) : Prop :=
  (∀ m, f (s.withBuf m) = (f s).withBuf m) ∨ ∃ a v, ∀ m, f (s.withBuf m) = (f s).withBuf (memWrite m a v)

/-- Two buffers under an update that does not read them: each entry stays in both or becomes the same byte in both. -/
theorem State.BufferUnread.entries {f : State → State} {s : State} (h : State.BufferUnread f s) (m : Memory) :
    ∃ m', f (s.withBuf m) = (f s).withBuf m' ∧
      ∀ x, (memRead m' x = memRead m x ∧ memRead (f s).buf x = memRead s.buf x) ∨
        memRead m' x = memRead (f s).buf x := by
  rcases h with hkeep | ⟨a, v, hwrite⟩
  · have hself : f s = (f s).withBuf s.buf := hkeep s.buf
    have hbuf : (f s).buf = s.buf := (congrArg State.buf hself).trans (State.withBuf_buf _ _)
    exact ⟨m, hkeep m, fun x => .inl ⟨rfl, by rw [hbuf]⟩⟩
  · have hself : f s = (f s).withBuf (memWrite s.buf a v) := hwrite s.buf
    have hbuf : (f s).buf = memWrite s.buf a v := (congrArg State.buf hself).trans (State.withBuf_buf _ _)
    refine ⟨memWrite m a v, hwrite m, fun x => ?_⟩
    rw [hbuf, memRead_memWrite, memRead_memWrite]
    by_cases hx : x = a ∧ a ≤ 254
    · exact .inr (by rw [if_pos hx, if_pos hx])
    · exact .inl ⟨if_neg hx, if_neg hx⟩

theorem State.waitTick_withBuf (m : Memory) (s : State) : (s.withBuf m).waitTick = s.waitTick.withBuf m := by
  unfold State.waitTick
  rw [apply_ite (State.withBuf m)]
  rfl

theorem State.waitArm_withBuf (m : Memory) (s : State) : (s.withBuf m).waitArm = s.waitArm.withBuf m := by
  simp only [State.waitArm, State.withBuf_st, State.waitTick_withBuf]
  cases s.st <;> rfl

theorem State.validateArm_withBuf (m : Memory) (s : State) : (s.withBuf m).validateArm = s.validateArm.withBuf m := by
  unfold State.validateArm
  rw [apply_ite (State.withBuf m)]
  rfl

theorem State.awaitHeaderByte_withBuf (b : Byte) (m : Memory) (s : State) :
    (s.withBuf m).awaitHeaderByte b = (s.awaitHeaderByte b).withBuf m := by
  unfold State.awaitHeaderByte
  rw [apply_ite (State.withBuf m)]
  rfl

theorem State.readLengthByte_withBuf (b : Byte) (m : Memory) (s : State) :
    (s.withBuf m).readLengthByte b = (s.readLengthByte b).withBuf m := by
  unfold State.readLengthByte
  rw [apply_ite (State.withBuf m)]
  rfl

theorem State.readPayloadByte_withBuf (b : Byte) (m : Memory) (s : State) :
    (s.withBuf m).readPayloadByte b = (s.readPayloadByte b).withBuf (memWrite m s.idx.toNat b) := by
  unfold State.readPayloadByte
  rw [apply_ite (State.withBuf (memWrite m s.idx.toNat b))]
  rfl

/-- Of the four byte arms only that of ReadPayload touches the buffer, and it only writes it (R42). -/
theorem State.byteArm_bufferUnread (b : Byte) (s : State) : State.BufferUnread (State.byteArm b) s := by
  simp only [State.BufferUnread, State.byteArm, State.withBuf_st]
  cases s.st with
  | awaitHeader => exact .inl fun m => s.awaitHeaderByte_withBuf b m
  | readLength => exact .inl fun m => s.readLengthByte_withBuf b m
  | readPayload => exact .inr ⟨_, b, fun m => s.readPayloadByte_withBuf b m⟩
  | _ => exact .inl fun _ => rfl

/-- A waiting or byte-taking tick does not read the buffer, nor does Validate (R42). -/
theorem State.busyArm_bufferUnread (d : Drive) (s : State) (h : s.st.reading = true ∨ s.st = .validate) :
    State.BufferUnread (State.busyArm d) s := by
  rcases h with hread | hval
  · have harm (m : Memory) : (s.withBuf m).busyArm d = (s.withBuf m).readArm := State.busyArm_reading d _ hread
    simp only [State.BufferUnread, harm, State.busyArm_reading d s hread, State.readArm, State.withBuf_rxStream]
    cases s.rxStream with
    | nil => exact .inl fun m => s.waitArm_withBuf m
    | cons b rest => exact s.consume.byteArm_bufferUnread b
  · refine .inl fun m => ?_
    rw [State.busyArm_validate d s hval, State.busyArm_validate d (s.withBuf m) hval, State.validateArm_withBuf]

theorem State.arrive_withBuf (m : Memory) (s : State) : (s.withBuf m).arrive = s.arrive.withBuf m := rfl

/-- On a busy block the host's sample does not depend on the buffer (R35, R89). -/
theorem State.hostSeen_withBuf (d : Drive) (m : Memory) (s : State) (h : s.busy = true) :
    (s.withBuf m).hostSeen d = s.hostSeen d := by
  have hb : (s.withBuf m).busy = true := h
  simp only [State.hostSeen, State.bufRdata, State.withBuf_hostRdata, h, hb, if_true]

theorem State.sampled_withBuf (m : Memory) (s : State) (h : s.busy = true) :
    (s.withBuf m).sampled = s.sampled.withBuf m := by
  have hseen : (s.arrive.withBuf m).hostSeen s.drive = s.arrive.hostSeen s.drive :=
    State.hostSeen_withBuf s.drive m s.arrive h
  exact congrArg (fun r => ({ s.arrive.withBuf m with hostRdata := r } : State)) hseen

/-- The handshakes of a reset tick read the buffer for nobody while the block is busy and offers no byte (R202). -/
theorem State.resetHandshakes_withBuf (d : Drive) (m : Memory) (s : State) (hb : s.busy = true)
    (hs : s.txValid = false) : (s.withBuf m).resetHandshakes d = (s.resetHandshakes d).withBuf m := by
  have hs' : (s.withBuf m).txValid = false := hs
  rw [State.resetHandshakes_eq, State.resetHandshakes_eq, State.hostSeen_withBuf d m s hb, hs, hs']
  rfl

/-- A tick of a receive does not read the buffer: its outcome is that of an update which does not (R42, R80). -/
theorem step_receive_bufferUnread (s : State) (h : s.st.reading = true ∨ s.st = .validate) :
    ∃ f, (∀ m, step (s.withBuf m) = .next (f (s.withBuf m))) ∧ step s = .next (f s) ∧ State.BufferUnread f s := by
  have hrest : s.st.resting = false := by
    rcases h with hread | hval
    · exact St.not_resting_of_reading hread
    · rw [hval]; rfl
  have hsend : s.st.sending = false := by
    rcases h with hread | hval
    · rcases St.of_reading hread with hst | hst | hst | hst <;> rw [hst] <;> rfl
    · rw [hval]; rfl
  have hbusy : s.busy = true := by rw [State.busy_eq, hrest]; rfl
  cases hr : s.drive.rst with
  | true =>
    refine ⟨fun u => (u.arrive.resetHandshakes s.drive).resetRegisters, fun m => step_reset (s.withBuf m) hr,
      step_reset s hr, .inl fun m => ?_⟩
    dsimp only
    rw [State.arrive_withBuf, State.resetHandshakes_withBuf s.drive m s.arrive hbusy hsend]
    rfl
  | false =>
    refine ⟨fun u => u.sampled.busyArm s.drive, fun m => step_busy (s.withBuf m) hr hrest, step_busy s hr hrest, ?_⟩
    have hun := State.busyArm_bufferUnread s.drive s.sampled h
    simpa only [State.BufferUnread, State.sampled_withBuf _ s hbusy] using hun

end Sys2Proof.Machine
end

section
/-! A frame that arrives promptly: what the block has done after each of its bytes (R121 to R136, log entry 8). -/

namespace Sys2Proof.Machine

/-! ## Bytes written one after the other -/

/-- The buffer after a list of bytes is written from entry `a` on. -/
def memWriteAll : Memory → Nat → List Byte → Memory
  | m, _, [] => m
  | m, a, b :: bs => memWriteAll (memWrite m a b) (a + 1) bs

/-- Bytes written from `a` on are read back in order, and every other entry keeps its value. -/
theorem memRead_memWriteAll (bs : List Byte) (m : Memory) (a x : Nat) (h : a + bs.length ≤ 255) :
    memRead (memWriteAll m a bs) x = if a ≤ x ∧ x < a + bs.length then bs.getD (x - a) 0 else memRead m x := by
  induction bs generalizing m a with
  | nil => exact (if_neg (by simp)).symm
  | cons b bs ih =>
    rw [List.length_cons] at h ⊢
    rw [memWriteAll, ih _ _ (by omega), memRead_memWrite]
    by_cases hx : x = a
    · subst hx
      rw [if_neg (by omega), if_pos (by omega), if_pos (by omega), Nat.sub_self]
      rfl
    · rw [if_neg (c := x = a ∧ a ≤ 254) (by omega)]
      by_cases hin : a + 1 ≤ x ∧ x < a + 1 + bs.length
      · rw [if_pos hin, if_pos (by omega), ← List.getD_cons_succ (x := b)]
        congr 1
        omega
      · rw [if_neg hin, if_neg (by omega)]

/-- One more byte goes behind the bytes already written. -/
theorem memWriteAll_concat (bs : List Byte) (m : Memory) (a : Nat) (b : Byte) :
    memWriteAll m a (bs ++ [b]) = memWrite (memWriteAll m a bs) (a + bs.length) b := by
  induction bs generalizing m a with
  | nil => rfl
  | cons c bs ih =>
    rw [List.cons_append, memWriteAll, memWriteAll, ih, List.length_cons, Nat.add_right_comm, Nat.add_assoc]

/-! ## One byte of a prompt receive at a time -/

/-- The length byte of at most 255 bytes is their number, and so is the index behind them (R13, R62). -/
theorem lengthByte_toNat {p : List Byte} (h : p.length ≤ 255) : (BitVec.ofNat 8 p.length).toNat = p.length := by
  rw [BitVec.toNat_ofNat]
  omega

/-- A timer value within the width is not saturated (R6). -/
theorem satTimer_of_lt {w t : Nat} (h : t < 2 ^ w) : satTimer w t = t :=
  min_eq_left (by omega)

/-- A block that asks for a byte takes the first one offered (R31, R121). -/
theorem State.receiveAll_of_asking (s : State) (b : Byte) (l : List Byte) (h : s.st.reading = true) :
    s.receiveAll (b :: l) = (s.byteArm b).receiveAll l := by
  rw [State.receiveAll, State.rxReady, if_pos h]

/-- Validate takes no byte and gives its verdict (R135, R136). -/
theorem State.receiveAll_of_validate (s : State) (l : List Byte) (h : s.st = .validate) :
    s.receiveAll l = ({ s with rxStream := l } : State).validateArm := by
  cases l <;> simp [State.receiveAll, State.rxReady, St.reading, h]

/-- The block that waited for a header, once the header is taken (R124). -/
def State.headerTaken (s : State) : State :=
  { s with csum := s.csum ^^^ s.cfg.header, byteTimer := 0, st := .readLength }

/-- The header byte (R124). -/
theorem State.receiveAll_header (s : State) (l : List Byte) (hst : s.st = .awaitHeader) :
    s.receiveAll (s.cfg.header :: l) = s.headerTaken.receiveAll l := by
  rw [State.receiveAll_of_asking s _ l (by rw [hst]; rfl), State.byteArm_awaitHeader _ _ hst]
  rcases State.awaitHeaderByte_cases s.cfg.header s with ⟨-, e⟩ | ⟨hne, -⟩
  · exact e ▸ rfl
  · exact absurd rfl hne

/-- The block that waited for a header in `s`, once the header, the length `n` and the payload bytes `q` are taken, all
in time and one a tick (R124, R127, R129). -/
def State.payloadTaken (n : Byte) (q : List Byte) (s : State) : State :=
  { s with
    csum := xorFold (s.cfg.header :: n :: q), len := n, idx := BitVec.ofNat 8 q.length, byteTimer := 0
    frameTimer := q.length, buf := memWriteAll s.buf 0 q
    st := if q.length = n.toNat then .readChecksum else .readPayload }

theorem State.payloadTaken_st (s : State) {n : Byte} {q : List Byte} (h : q.length < n.toNat) :
    (s.payloadTaken n q).st = .readPayload :=
  if_neg (by omega)

/-- The header and a length byte within the capacity (R124, R127). -/
theorem State.receiveAll_header_length (s : State) (n : Byte) (l : List Byte) (hst : s.st = .awaitHeader)
    (hcsum : s.csum = 0) (hn : n.toNat ≤ s.cap.toNat) :
    s.receiveAll (s.cfg.header :: n :: l) = (s.payloadTaken n []).receiveAll l := by
  rw [State.receiveAll_header s _ hst, State.receiveAll_of_asking _ _ l (by rfl), State.byteArm_readLength _ _ (by rfl)]
  rcases State.readLengthByte_cases n s.headerTaken with ⟨hlong, -⟩ | ⟨-, e⟩
  · exact absurd hlong (Nat.not_lt.mpr hn)
  · have hzero : n = 0 ↔ ([] : List Byte).length = n.toNat := by
      rw [← BitVec.toNat_inj]
      exact eq_comm
    rw [e]
    simp only [State.payloadTaken, State.headerTaken, ← hzero, hcsum]
    simp [memWriteAll]

/-- The header and a length byte above the capacity: the rest stays in the Transport (R126, R50 (b)). -/
theorem State.receiveAll_header_tooLong (s : State) (n : Byte) (l : List Byte) (hst : s.st = .awaitHeader)
    (hn : s.cap.toNat < n.toNat) :
    s.receiveAll (s.cfg.header :: n :: l) =
      { s with
        st := .failed, status := .lengthInvalid, resLen := 0, csum := s.csum ^^^ s.cfg.header, byteTimer := 0
        rxStream := l } := by
  rw [State.receiveAll_header s _ hst, State.receiveAll_of_asking _ _ l (by rfl), State.byteArm_readLength _ _ (by rfl)]
  rcases State.readLengthByte_cases n s.headerTaken with ⟨-, e⟩ | ⟨hle, -⟩
  · rw [e, State.receiveAll_of_not_asking _ _ (by rfl) (by simp)]
    rfl
  · exact absurd hn (Nat.not_lt.mpr hle)

/-- The registers that a payload byte changes in every case, in time or not (R129). -/
theorem State.payloadTaken_byteArm (s : State) (n : Byte) (q : List Byte) (b : Byte) (hc : s.cfg.wf)
    (hq : q.length < n.toNat) (hd : q.length ≤ s.cfg.frameDeadline) :
    (s.payloadTaken n q).byteArm b =
      if s.cfg.frameDeadline = q.length then (s.payloadTaken n (q ++ [b])).fail .timeout
      else s.payloadTaken n (q ++ [b]) := by
  obtain ⟨-, -, hwidth⟩ := hc
  have hn := n.isLt
  have hlength : (q ++ [b]).length = q.length + 1 := List.length_append
  have hft : satTimer s.cfg.timerW (q.length + 1) = (q ++ [b]).length := by
    rw [hlength]
    exact satTimer_of_lt (by omega)
  have hcsum : xorFold (s.cfg.header :: n :: q) ^^^ b = xorFold (s.cfg.header :: n :: (q ++ [b])) := by
    simp [BitVec.xor_assoc]
  have hold : (BitVec.ofNat 8 q.length).toNat = q.length := lengthByte_toNat (by omega)
  have hidx : BitVec.ofNat 8 q.length + 1 = BitVec.ofNat 8 (q ++ [b]).length := by
    rw [BitVec8_succ, hold, hlength]
  have hbuf : memWrite (memWriteAll s.buf 0 q) q.length b = memWriteAll s.buf 0 (q ++ [b]) := by
    rw [memWriteAll_concat, Nat.zero_add]
  have hend : BitVec.ofNat 8 (q ++ [b]).length = n ↔ (q ++ [b]).length = n.toNat := by
    rw [← hidx, BitVec8_succ_eq_iff _ _ (by omega), hold, hlength]
  rw [State.byteArm_readPayload _ _ (s.payloadTaken_st hq)]
  rcases State.readPayloadByte_cases b (s.payloadTaken n q) with ⟨hlate, e⟩ | ⟨hintime, e⟩
  · have hlate : s.cfg.frameDeadline < (q ++ [b]).length := hft ▸ hlate
    rw [if_pos (by omega), e]
    simp only [State.payloadTaken, State.fail, hft, hcsum, hold, hidx, hbuf]
  · have hintime : (q ++ [b]).length ≤ s.cfg.frameDeadline := hft ▸ hintime
    rw [if_neg (by omega), e]
    simp only [State.payloadTaken, hft, hcsum, hold, hidx, hbuf, hend]

/-- Payload bytes in time, any number of them up to the length (R129). -/
theorem State.receiveAll_payload (s : State) (n : Byte) (q bs l : List Byte) (hc : s.cfg.wf)
    (hlen : (q ++ bs).length ≤ n.toNat) (hd : (q ++ bs).length ≤ s.cfg.frameDeadline) :
    (s.payloadTaken n q).receiveAll (bs ++ l) = (s.payloadTaken n (q ++ bs)).receiveAll l := by
  induction bs generalizing q with
  | nil => rw [List.append_nil, List.nil_append]
  | cons b bs ih =>
    have hsplit : q ++ b :: bs = q ++ [b] ++ bs := List.append_cons q b bs
    rw [hsplit] at hlen hd ⊢
    have hq : q.length + 1 ≤ (q ++ [b] ++ bs).length := by simp
    rw [List.cons_append, State.receiveAll_of_asking _ _ _ (by rw [s.payloadTaken_st (by omega)]; rfl),
      State.payloadTaken_byteArm s n q b hc (by omega) (by omega), if_neg (by omega)]
    exact ih (q ++ [b]) hlen hd

/-- The checksum byte and the verdict (R131, R136). -/
theorem State.receiveAll_checksum (s : State) (c : Byte) (hst : s.st = .readChecksum) :
    s.receiveAll [c] =
      { s with
        frameTimer := satTimer s.cfg.timerW (s.frameTimer + 1), rxChk := c, rxStream := []
        st := if c = s.csum then .done else .failed
        status := if c = s.csum then .ok else .checksumMismatch
        resLen := if c = s.csum then s.len else 0 } := by
  rw [State.receiveAll_of_asking s c [] (by rw [hst]; rfl), State.byteArm_readChecksum _ _ hst,
    State.receiveAll_of_validate _ _ (by rfl)]
  rcases State.validateArm_cases _ with ⟨heq, e⟩ | ⟨hne, e⟩
  · rw [e]
    have heq : c = s.csum := heq.symm
    simp only [if_pos heq]
    rfl
  · rw [e]
    have hne : ¬ c = s.csum := fun h => hne h.symm
    simp only [if_neg hne]
    rfl

/-- The checksum of a whole payload is the fold of the frame without its last byte (R100). -/
theorem checksum_eq_xorFold {h n : Byte} {p : List Byte} (hp : p.length = n.toNat) :
    checksum h n p = xorFold (h :: n :: p) := by
  rw [checksum, ← hp, List.take_length]
  rfl

/-- A payload read back from the buffer it was written to from entry 0 on (R44). -/
theorem memRead_payload (p : List Byte) (m : Memory) (x : Nat) (h : p.length ≤ 255) :
    memRead (memWriteAll m 0 p) x = if x < p.length then p.getD x 0 else memRead m x := by
  simp [memRead_memWriteAll p m 0 x (by omega)]

end Sys2Proof.Machine
end

section
/-! The obligations about the buffer and the streams. -/

namespace Sys2Proof.Machine

/-! ## The prompt frame (R139, R140, R50) -/

/-- Settles O35: the header, the length and the payload are taken in time, then the checksum byte is compared. -/
theorem promptFrameIsReceived : Obligations.PromptFrameIsReceived := by
  intro s p c hc hst hcsum hrx hcap hd n sum
  have hp : p.length ≤ 255 := by have := s.cap.isLt; omega
  have hn : p.length = n.toNat := (lengthByte_toNat hp).symm
  have hsum : sum = xorFold (s.cfg.header :: n :: p) := checksum_eq_xorFold hn
  have hft : satTimer s.cfg.timerW (p.length + 1) = p.length + 1 := by
    obtain ⟨-, -, hwidth⟩ := hc
    exact satTimer_of_lt (by omega)
  refine ⟨memWriteAll s.buf 0 p, congrArg Host.Outcome.next ?_, fun x => memRead_payload p s.buf x hp⟩
  calc s.receiveAll (s.rxStream ++ frameBytes s.cfg.header p c)
      = s.receiveAll (s.cfg.header :: n :: (p ++ [c])) := by rw [hrx]; rfl
    _ = (s.payloadTaken n []).receiveAll (p ++ [c]) :=
        State.receiveAll_header_length s n _ hst hcsum (hn ▸ hcap)
    _ = (s.payloadTaken n p).receiveAll [c] := State.receiveAll_payload s n [] p [c] hc hn.le hd
    _ = _ := by
        rw [State.receiveAll_checksum _ c (if_pos hn)]
        simp only [State.payloadTaken, hft, hsum, hrx]
        rfl

/-- Settles O37: `frameDeadline` bytes are taken in time, and the next one is late. -/
theorem framePastTheDeadlineTimesOut : Obligations.FramePastTheDeadlineTimesOut := by
  intro s p c hc hst hcsum hrx hcap hd k
  have hp : p.length ≤ 255 := by have := s.cap.isLt; omega
  have hn := lengthByte_toNat hp
  generalize hlen : BitVec.ofNat 8 p.length = n at hn ⊢
  obtain ⟨q, b, rest, hsplit, hq⟩ : ∃ q b rest, p = q ++ b :: rest ∧ q.length = s.cfg.frameDeadline :=
    ⟨p.take _, p[s.cfg.frameDeadline], p.drop _, by rw [← List.drop_eq_getElem_cons, List.take_append_drop],
      List.length_take_of_le hd.le⟩
  have hk : (q ++ [b]).length = k := by rw [List.length_append, hq]; rfl
  have htake : p.take k = q ++ [b] := by rw [hsplit, List.append_cons, ← hk, List.take_left]
  have hdrop : p.drop k = rest := by rw [hsplit, List.append_cons, ← hk, List.drop_left]
  have hbytes : q ++ b :: (rest ++ [c]) = p ++ [c] := by rw [hsplit, List.append_assoc, List.cons_append]
  refine ⟨memWriteAll s.buf 0 (q ++ [b]), congrArg Host.Outcome.next ?_, fun x => ?_⟩
  · calc s.receiveAll (s.rxStream ++ frameBytes s.cfg.header p c)
        = s.receiveAll (s.cfg.header :: n :: (q ++ b :: (rest ++ [c]))) := by
          rw [hrx, ← hlen, hbytes]
          rfl
      _ = (s.payloadTaken n []).receiveAll (q ++ b :: (rest ++ [c])) :=
          State.receiveAll_header_length s n _ hst hcsum (hn ▸ hcap)
      _ = (s.payloadTaken n q).receiveAll (b :: (rest ++ [c])) :=
          State.receiveAll_payload s n [] q _ hc (by rw [List.nil_append]; omega) hq.le
      _ = ((s.payloadTaken n (q ++ [b])).fail .timeout).receiveAll (rest ++ [c]) := by
          rw [State.receiveAll_of_asking _ _ _ (by rw [s.payloadTaken_st (by omega)]; rfl),
            State.payloadTaken_byteArm s n q b hc (by omega) hq.le, if_pos hq.symm]
      _ = _ := by
          rw [State.receiveAll_of_not_asking _ _ (by rfl) (by simp), htake, hdrop]
          simp only [State.payloadTaken, State.fail, hk]
          rfl
  · rw [memRead_payload _ _ _ (by omega), hk, ← htake]
    refine if_ctx_congr Iff.rfl (fun hx => ?_) (fun _ => rfl)
    rw [List.getD_eq_getElem?_getD, List.getD_eq_getElem?_getD, List.getElem?_take_of_lt hx]

/-- Settles O36: the length byte says the payload's length, which is above the capacity. -/
theorem frameTooLongIsLeftBehind : Obligations.FrameTooLongIsLeftBehind := by
  intro s p c hst hrx hcap hp
  refine congrArg Host.Outcome.next ?_
  rw [hrx, List.nil_append]
  exact State.receiveAll_header_tooLong s _ _ hst ((lengthByte_toNat hp).symm ▸ hcap)

/-! ## The buffer under a busy block (R41 to R43) -/

/-- Settles O41: the tick is an update that does not read the buffer. -/
theorem receiveDoesNotReadTheBuffer : Obligations.ReceiveDoesNotReadTheBuffer := by
  intro s t m h hstep
  obtain ⟨f, hother, hself, hunread⟩ := step_receive_bufferUnread s h
  obtain ⟨m', hf, hentries⟩ := hunread.entries m
  have ht : f s = t := step_unique hself hstep
  rw [ht] at hf hentries
  exact ⟨m', (hother m).trans (congrArg Host.Outcome.next hf), hentries⟩

/-- Settles O43: a reset tick keeps the buffer, and of the arms only ReadPayload's writes it, at `idx`. -/
theorem busyTickKeepsTheBuffer : Obligations.BusyTickKeepsTheBuffer := by
  intro s t hbusy hstep x
  have hrest : s.st.resting = false := by simpa [State.busy_eq] using hbusy
  cases hr : s.drive.rst with
  | true =>
    rw [step_unique hstep (step_reset s hr), State.resetHandshakes_eq]
    exact .inl rfl
  | false =>
    rw [step_unique hstep (step_busy s hr hrest)]
    rcases State.busyArm_buf s.drive s.sampled hrest with hkeep | ⟨hst, b, hrx, hwrite⟩
    · exact .inl (by rw [hkeep]; rfl)
    · rw [hwrite, memRead_memWrite]
      by_cases hx : x = s.sampled.idx.toNat ∧ s.sampled.idx.toNat ≤ 254
      · rw [if_pos hx]
        exact .inr ⟨hst, rfl, hx.1, hrx⟩
      · rw [if_neg hx]
        exact .inl rfl

/-! ## The host's write (R45, R56, R88) -/

/-- Settles O21: the write's two cases, and what a read gives after each. -/
theorem hostWriteLands : Obligations.HostWriteLands := by
  intro a v s
  refine ⟨congrArg Host.Outcome.next (s.hostWrite_eq a v), fun t ht x => ?_⟩
  have hwritten : t = s.hostWrite a v := (Host.Outcome.next.inj ht).symm
  rw [hwritten, State.hostWrite_eq]
  by_cases hlands : s.busy = false ∧ a.toNat ≤ 254
  · obtain ⟨hbusy, ha⟩ := hlands
    simp [hbusy, ha, memRead_memWrite]
  · rw [if_neg hlands, if_neg (fun hx => hlands ⟨hx.1, hx.2.1⟩)]

/-- Settles O26: the buffer port is served first, then the command port, which keeps the buffer. -/
theorem writeAndSendInOneTick : Obligations.WriteAndSendInOneTick := by
  intro s a v n hr hbusy hport hcmd hn hn'
  have hserved := State.bufServed_write s.drive s.arrive a v hbusy hport
  refine ⟨_, step_resting s hr (s.busy_eq_false_iff.mp hbusy), ?_⟩
  rw [hserved, State.cmdServed_send s.drive _ n hcmd ⟨hn, hn'⟩]
  refine ⟨rfl, sendLength_toNat hn', fun x => ?_⟩
  exact (memRead_memWrite s.buf a.toNat x v).trans (if_congr and_comm rfl rfl)

/-! ## The streams of resting and reset ticks (R46, R48, R179, R202) -/

/-- Settles O50: every outcome of a resting tick keeps both streams. -/
theorem restingBlockTouchesNoStream : Obligations.RestingBlockTouchesNoStream := by
  intro s t hr h hstep
  apply step_elim (P := fun t => t.rxStream = s.arrive.rxStream ∧ t.txStream = s.txStream) hstep
  exact step_resting_elim s hr h fun _ _ _ =>
    ⟨fun _ => ⟨rfl, rfl⟩, ⟨rfl, rfl⟩, fun _ _ => ⟨rfl, rfl⟩, fun _ _ => ⟨rfl, rfl⟩⟩

/-- Settles O52: the handshakes of the reset tick, read off field by field. -/
theorem resetTickStreams : Obligations.ResetTickStreams := by
  intro s t hr hstep
  rw [step_unique hstep (step_reset s hr), State.resetHandshakes_eq]
  refine ⟨rfl, if_congr ?_ rfl rfl⟩
  simp only [Bool.and_eq_true, Bool.not_eq_true', and_assoc]
  rfl

end Sys2Proof.Machine
end

section
/-! Lemmas for the encodings: the fields of a port word, the frames the decoder reads, and the order of a tick's ports. -/

namespace Sys2Proof.Machine

/-! ## Command words (R66) -/

/-- One bit of a word is its field of width 1. -/
theorem ofBool_getLsbD_eq_extractLsb' {m : Nat} (w : BitVec m) (k : Nat) :
    BitVec.ofBool (w.getLsbD k) = w.extractLsb' k 1 := by
  apply BitVec.eq_of_getLsbD_eq
  intro i hi
  obtain rfl : i = 0 := by omega
  simp

theorem recvWord_op (n : BitVec 9) : (0#1 ++ n : CmdWord).getLsbD 9 = false := by
  rw [BitVec.getLsbD_append]; rfl

theorem recvWord_arg (n : BitVec 9) : (0#1 ++ n : CmdWord).extractLsb' 0 9 = n :=
  BitVec.extractLsb'_append_eq_right

theorem decodeCmd_recv (n : BitVec 9) : decodeCmd (0#1 ++ n) = .recv n := by
  rw [decodeCmd, recvWord_op, recvWord_arg, if_neg Bool.false_ne_true]

theorem decodeCmd_send (n : BitVec 9) : decodeCmd (1#1 ++ n) = .send n := by
  rw [decodeCmd, sendWord_op, sendWord_arg, if_pos rfl]

/-- A command word is its operation bit before its operand: no bit lies outside the two fields. -/
theorem cmdWord_fields (w : CmdWord) : BitVec.ofBool (w.getLsbD 9) ++ w.extractLsb' 0 9 = w := by
  rw [ofBool_getLsbD_eq_extractLsb', BitVec.extractLsb'_append_extractLsb'_eq_extractLsb' (by rfl)]
  exact BitVec.extractLsb'_eq_self

/-- A command word decodes to a command, and every command is well formed (R72). -/
theorem decodeCmd_wellFormed (w : CmdWord) : (decodeCmd w).wellFormed = true := by
  unfold decodeCmd
  split <;> rfl

theorem encode_decodeCmd (header : Byte) (w : CmdWord) : encode header (decodeCmd w) = .cmd w := by
  have hw := cmdWord_fields w
  unfold decodeCmd
  split
  case isTrue hop =>
    rw [hop] at hw
    exact congrArg Encoded.cmd hw
  case isFalse hop =>
    rw [Bool.eq_false_iff.mpr hop] at hw
    exact congrArg Encoded.cmd hw

theorem decode_cmd_iff (header : Byte) (w : CmdWord) (i : Instr) (rest : List Byte) :
    decode header (.cmd w) = .ok (i, rest) ↔ decodeCmd w = i ∧ rest = [] := by
  simp [decode, eq_comm]

/-- The operation bit of a command word as a number (R66). -/
theorem cmdWord_op_eq_decide (w : CmdWord) : w.getLsbD 9 = decide (512 ≤ w.toNat) :=
  BitVec.msb_eq_decide w

/-! ## Buffer-port triples (R69) -/

theorem decodeBufPort_bufwr (a v : Byte) : decodeBufPort (1#1 ++ a ++ v) = .bufwr a v := by
  rw [decodeBufPort, bufwrWord_we, bufwrWord_addr, bufwrWord_data, if_pos rfl]

theorem bufrdWord_we (a i : Byte) : (0#1 ++ a ++ i : BufWord).getLsbD 16 = false := by
  rw [BitVec.getLsbD_append, BitVec.getLsbD_append]; rfl

theorem bufrdWord_addr (a i : Byte) : (0#1 ++ a ++ i : BufWord).extractLsb' 8 8 = a := by
  rw [BitVec.extractLsb'_append_eq_of_le (by decide), BitVec.extractLsb'_append_eq_right]

theorem bufrdWord_data (a i : Byte) : (0#1 ++ a ++ i : BufWord).extractLsb' 0 8 = i :=
  BitVec.extractLsb'_append_eq_right

theorem decodeBufPort_bufrd (a i : Byte) : decodeBufPort (0#1 ++ a ++ i) = .bufrd a i := by
  rw [decodeBufPort, bufrdWord_we, bufrdWord_addr, bufrdWord_data, if_neg Bool.false_ne_true]

/-- A triple is its write bit, its address and its byte: no bit lies outside the three fields. -/
theorem bufWord_fields (w : BufWord) :
    BitVec.ofBool (w.getLsbD 16) ++ w.extractLsb' 8 8 ++ w.extractLsb' 0 8 = w := by
  rw [ofBool_getLsbD_eq_extractLsb', BitVec.extractLsb'_append_extractLsb'_eq_extractLsb' (by rfl),
    BitVec.extractLsb'_append_extractLsb'_eq_extractLsb' (by rfl)]
  exact BitVec.extractLsb'_eq_self

theorem encode_decodeBufPort (header : Byte) (w : BufWord) : encode header (decodeBufPort w) = .bufPort w := by
  have hw := bufWord_fields w
  unfold decodeBufPort
  split
  case isTrue hwe =>
    rw [hwe] at hw
    exact congrArg Encoded.bufPort hw
  case isFalse hwe =>
    rw [Bool.eq_false_iff.mpr hwe] at hw
    exact congrArg Encoded.bufPort hw

theorem decode_bufPort_iff (header : Byte) (w : BufWord) (i : Instr) (rest : List Byte) :
    decode header (.bufPort w) = .ok (i, rest) ↔ decodeBufPort w = i ∧ rest = [] := by
  simp [decode, eq_comm]

/-- The write bit of a triple as a number (R69). -/
theorem bufWord_we_eq_decide (w : BufWord) : w.getLsbD 16 = decide (65536 ≤ w.toNat) :=
  BitVec.msb_eq_decide w

/-- A triple decodes to an access, and every access is well formed (R69). -/
theorem decodeBufPort_wellFormed (w : BufWord) : (decodeBufPort w).wellFormed = true := by
  unfold decodeBufPort
  split <;> rfl

/-! ## Frames (R60, R61, R65) -/

theorem frameBytes_length (header c : Byte) (p : List Byte) : (frameBytes header p c).length = p.length + 3 := by
  simp [frameBytes]

/-- Payload bytes as many as the length byte says, and one byte more, are a frame whatever follows. -/
theorem decodeWire_frame (header n c : Byte) (p rest : List Byte) (hn : p.length = n.toNat) :
    decodeWire header (header :: n :: (p ++ c :: rest)) = .ok (.frame p c, rest) := by
  simp [decodeWire, ← hn]

/-- The decoder of the wire reads nothing but such frames. -/
theorem decodeWire_ok_iff (header : Byte) (bytes : List Byte) (i : Instr) (rest : List Byte) :
    decodeWire header bytes = .ok (i, rest) ↔
      ∃ (n c : Byte) (p : List Byte), p.length = n.toNat ∧ bytes = header :: n :: (p ++ c :: rest) ∧ i = .frame p c := by
  constructor
  case mpr =>
    rintro ⟨n, c, p, hn, rfl, rfl⟩
    exact decodeWire_frame header n c p rest hn
  case mp =>
    intro hdec
    match bytes with
    | [] => simp [decodeWire] at hdec
    | h :: tail =>
      by_cases hh : h = header
      case neg => simp [decodeWire, hh] at hdec
      subst hh
      match tail with
      | [] => simp [decodeWire] at hdec
      | n :: body =>
        cases hdrop : body.drop n.toNat with
        | nil => simp [decodeWire, hdrop] at hdec
        | cons c after =>
          have hlen : n.toNat < body.length := by
            by_contra hshort
            rw [List.drop_eq_nil_of_le (Nat.le_of_not_lt hshort)] at hdrop
            contradiction
          have hread : (Instr.frame (body.take n.toNat) c, after) = (i, rest) := by
            simpa [decodeWire, hdrop] using hdec
          obtain ⟨rfl, rfl⟩ := Prod.mk.inj hread
          refine ⟨n, c, body.take n.toNat, List.length_take_of_le hlen.le, ?_, rfl⟩
          rw [← hdrop, List.take_append_drop]

/-- A sequence that starts with the header and has no byte where its length byte puts the checksum is cut short. -/
theorem decodeWire_truncated (header n : Byte) (body : List Byte) (hn : body.length ≤ n.toNat) :
    decodeWire header (header :: n :: body) = .error .truncated := by
  simp [decodeWire, List.drop_eq_nil_of_le hn]

/-- A frame cut before its end is refused: as empty where no byte is left, else as truncated (R65). -/
theorem decodeWire_take_frameBytes (header c : Byte) (p : List Byte) (hp : p.length ≤ 255) (k : Nat)
    (hk : k < p.length + 3) :
    decodeWire header ((frameBytes header p c).take k) = .error (if k = 0 then .empty else .truncated) := by
  match k with
  | 0 => rfl
  | 1 => simp [frameBytes, decodeWire]
  | k + 2 =>
    refine decodeWire_truncated header _ ((p ++ [c]).take k) ?_
    rw [lengthByte_toNat hp, List.length_take]
    omega

/-! ## The order of a tick's ports (R80, R81) -/

theorem andThen_next (o : Host.Outcome State Fault Refusal) : andThen o .next = o := by
  cases o <;> rfl

theorem bufPortTick_none {d : Drive} (h : d.bufPort = none) (s : State) : bufPortTick d s = .next s := by
  rw [bufPortTick, h]

theorem bufPortTick_some {d : Drive} {w : BufWord} (h : d.bufPort = some w) (s : State) :
    bufPortTick d s = exec (decodeBufPort w) s := by
  rw [bufPortTick, h]

theorem commandTick_none {d : Drive} (h : d.cmdPort = none) : commandTick d = .next := by
  funext s
  rw [commandTick, h]

theorem commandTick_some {d : Drive} {w : CmdWord} (h : d.cmdPort = some w) : commandTick d = exec (decodeCmd w) := by
  funext s
  rw [commandTick, h]

/-- The buffer port leaves the state register alone. -/
theorem State.bufServed_st (d : Drive) (s : State) : (s.bufServed d).st = s.st := by
  obtain ⟨m, r, hserved, -⟩ := State.bufServed_cases d s
  rw [hserved]

/-- A tick of a resting block serves the buffer port, then the command port. -/
theorem step_ports_resting (s : State) (hr : s.drive.rst = false) (h : s.busy = false) :
    step s = andThen (bufPortTick s.drive s.arrive) (commandTick s.drive) := by
  have hready : (s.arrive.bufServed s.drive).cmdReady = true := by
    rw [State.cmdReady_eq, State.bufServed_st]
    exact s.busy_eq_false_iff.mp h
  simp [step, tick, hr, bufPortTick_eq, andThen, stateArm, hready]

/-- A tick of a busy block serves the buffer port, then runs the arm of the state. -/
theorem step_ports_busy (s : State) (hr : s.drive.rst = false) (h : s.busy = true) :
    step s = andThen (bufPortTick s.drive s.arrive) (fun t => .next (t.busyArm s.drive)) := by
  have hready : (s.arrive.bufServed s.drive).cmdReady = false := by
    rw [State.cmdReady_eq, State.bufServed_st]
    simpa [State.busy_eq] using h
  simp [step, tick, hr, bufPortTick_eq, andThen, stateArm, hready]

end Sys2Proof.Machine
end

section
/-! The obligations about the encodings. -/

namespace Sys2Proof.Machine

/-! ## Decoder and encoder agree (R60, R66, R69, R72) -/

/-- Settles O1, one form of instruction at a time. -/
theorem decodeOfEncode : Obligations.DecodeOfEncode := by
  intro header i hwf
  cases i with
  | recv n => exact (decode_cmd_iff ..).mpr ⟨decodeCmd_recv n, rfl⟩
  | send n => exact (decode_cmd_iff ..).mpr ⟨decodeCmd_send n, rfl⟩
  | bufwr a v => exact (decode_bufPort_iff ..).mpr ⟨decodeBufPort_bufwr a v, rfl⟩
  | bufrd a ignored => exact (decode_bufPort_iff ..).mpr ⟨decodeBufPort_bufrd a ignored, rfl⟩
  | frame p c =>
    have hp : p.length ≤ 255 := of_decide_eq_true hwf
    exact decodeWire_frame header _ c p [] (lengthByte_toNat hp).symm

/-- Settles O2: a port word is nothing but its fields, and what is read from the wire is a frame before the rest. -/
theorem encodeOfDecode : Obligations.EncodeOfDecode := by
  intro header e i rest hdec
  cases e with
  | cmd w =>
    obtain ⟨rfl, rfl⟩ := (decode_cmd_iff ..).mp hdec
    exact ⟨decodeCmd_wellFormed w, rfl, encode_decodeCmd header w⟩
  | bufPort w =>
    obtain ⟨rfl, rfl⟩ := (decode_bufPort_iff ..).mp hdec
    exact ⟨decodeBufPort_wellFormed w, rfl, encode_decodeBufPort header w⟩
  | wire bytes =>
    obtain ⟨n, c, p, hn, rfl, rfl⟩ := (decodeWire_ok_iff ..).mp hdec
    have hlen : BitVec.ofNat 8 p.length = n := by rw [hn, BitVec.ofNat_toNat, BitVec.setWidth_eq]
    have hp : p.length ≤ maxPayload := hn ▸ Nat.le_of_lt_succ n.isLt
    refine ⟨decide_eq_true hp, header :: n :: (p ++ [c]), by simp, ?_⟩
    rw [encode, frameBytes, hlen]

/-! ## Frames on the wire (R60, R61, R65) -/

/-- Settles O6: `decodeWire_frame` for the whole frame, `decodeWire_take_frameBytes` for what is cut short. -/
theorem frameEndsWhereItsLengthSays : Obligations.FrameEndsWhereItsLengthSays := by
  intro header c p rest hp
  refine ⟨frameBytes_length header c p, ?_, decodeWire_take_frameBytes header c p hp⟩
  have hbytes : frameBytes header p c ++ rest = header :: BitVec.ofNat 8 p.length :: (p ++ c :: rest) := by
    simp [frameBytes]
  rw [hbytes]
  exact decodeWire_frame header _ c p rest (lengthByte_toNat hp).symm

/-- Settles O7: the decoder looks at the first byte before all others. -/
theorem wrongHeaderIsNoFrame : Obligations.WrongHeaderIsNoFrame :=
  fun _ _ _ hb => if_neg hb

/-! ## The layouts of the port words (R66, R69) -/

/-- Settles O3: the words are evaluated. -/
theorem sampleWordsDecode : Obligations.SampleWordsDecode := by
  unfold Obligations.SampleWordsDecode
  decide

/-- Settles O4: the operation bit is the highest of ten, so it says whether the word is 512 or more. -/
theorem commandWordLayout : Obligations.CommandWordLayout := by
  intro header w
  refine ⟨w.extractLsb' 0 9, by simp [BitVec.extractLsb'_toNat], (decode_cmd_iff ..).mpr ⟨?_, rfl⟩⟩
  rw [decodeCmd, cmdWord_op_eq_decide]
  by_cases h : w.toNat < 512
  · simp [h]
  · simp [h, Nat.le_of_not_lt h]

/-- Settles O5: the write bit is the highest of seventeen, so it says whether the triple is 65536 or more. -/
theorem bufferPortLayout : Obligations.BufferPortLayout := by
  intro header w
  refine ⟨w.extractLsb' 8 8, w.extractLsb' 0 8, ?_, ?_, (decode_bufPort_iff ..).mpr ⟨?_, rfl⟩⟩
  · simp [BitVec.extractLsb'_toNat, Nat.shiftRight_eq_div_pow]
  · simp [BitVec.extractLsb'_toNat]
  · simp only [decodeBufPort, bufWord_we_eq_decide, decide_eq_true_eq]

/-! ## The step runs what it decodes (R69, R80, R81) -/

/-- Settles O25: each clause is the order of a tick's ports, with what each port decodes to put in. -/
theorem stepRunsDecodedInstruction : Obligations.StepRunsDecodedInstruction := by
  intro s hr
  refine ⟨?noPort, ?busyNoPort, ?command, ?access⟩
  case noPort =>
    intro hbusy hbuf hcmd
    rw [step_ports_resting s hr hbusy, commandTick_none hcmd, andThen_next, bufPortTick_none hbuf]
  case busyNoPort =>
    intro hbusy hbuf
    rw [step_ports_busy s hr hbusy, bufPortTick_none hbuf, andThen]
  case command =>
    intro w i rest hbusy hbuf hcmd hdec
    obtain ⟨rfl, -⟩ := (decode_cmd_iff ..).mp hdec
    rw [step_ports_resting s hr hbusy, commandTick_some hcmd, bufPortTick_none hbuf, andThen]
  case access =>
    intro w i rest hbuf hdec
    obtain ⟨rfl, -⟩ := (decode_bufPort_iff ..).mp hdec
    rw [← bufPortTick_some hbuf]
    refine ⟨fun hbusy hcmd => ?_, step_ports_busy s hr, fun w' i' rest' hbusy hcmd hdec' => ?_⟩
    · rw [step_ports_resting s hr hbusy, commandTick_none hcmd, andThen_next]
    · obtain ⟨rfl, -⟩ := (decode_cmd_iff ..).mp hdec'
      rw [step_ports_resting s hr hbusy, commandTick_some hcmd]

end Sys2Proof.Machine
end

section
/-! Lemmas for commands and single ticks: what acceptance reads, which inputs a tick reads, the rows of the state graph,
and ticks in which nobody drives a port. -/

namespace Sys2Proof.Machine

/-! ## Commands offered to a block (R81 to R90) -/

/-- A resting block accepts a RECV (R81). -/
theorem exec_recv_ready {s : State} (h : s.cmdReady = true) (n : BitVec 9) :
    exec (.recv n) s = .next (s.acceptRecv n) :=
  congrArg Host.Outcome.next (if_pos h)

/-- A resting block accepts a SEND (R81). -/
theorem exec_send_ready {s : State} (h : s.cmdReady = true) (n : BitVec 9) :
    exec (.send n) s = .next (s.acceptSend n) :=
  congrArg Host.Outcome.next (if_pos h)

theorem State.cmdReady_of_busy {s : State} (h : s.busy = true) : ¬ s.cmdReady = true := by
  simpa [State.busy] using h

/-- A busy block ignores a RECV (R90). -/
theorem exec_recv_busy {s : State} (h : s.busy = true) (n : BitVec 9) : exec (.recv n) s = .next s :=
  congrArg Host.Outcome.next (if_neg (State.cmdReady_of_busy h))

/-- A busy block ignores a SEND (R90). -/
theorem exec_send_busy {s : State} (h : s.busy = true) (n : BitVec 9) : exec (.send n) s = .next s :=
  congrArg Host.Outcome.next (if_neg (State.cmdReady_of_busy h))

/-- `RECV 0` is the only RECV out of range (R83). -/
theorem State.acceptRecv_zero (s : State) : s.acceptRecv 0 = s.fail .invalidLength := rfl

/-- A RECV in range starts a receive (R84). -/
theorem State.acceptRecv_of_pos (s : State) {n : BitVec 9} (hn : 1 ≤ n.toNat) :
    s.acceptRecv n =
      { s with
        cap := recvCapacity n, csum := 0, idx := 0, len := 0, byteTimer := 0, frameTimer := 0
        status := .none, resLen := 0, st := .awaitHeader } := by
  rcases s.acceptRecv_cases n with ⟨rfl, -⟩ | ⟨-, e⟩
  · exact absurd hn (by decide)
  · exact e

/-- A SEND out of range fails (R85). -/
theorem State.acceptSend_of_outOfRange (s : State) {n : BitVec 9} (hn : ¬ (1 ≤ n.toNat ∧ n.toNat ≤ 255)) :
    s.acceptSend n = s.fail .invalidLength := by
  rcases s.acceptSend_cases n with ⟨-, e⟩ | ⟨hin, -⟩
  · exact e
  · exact absurd hin hn

/-- A SEND in range starts a send (R86). -/
theorem State.acceptSend_of_inRange (s : State) {n : BitVec 9} (hn : 1 ≤ n.toNat ∧ n.toNat ≤ 255) :
    s.acceptSend n =
      { s with len := sendLength n, idx := 0, csum := 0, status := .none, resLen := 0, st := .txHeader } := by
  rcases s.acceptSend_cases n with ⟨hout, -⟩ | ⟨-, e⟩
  · exact absurd hn hout
  · exact e

/-- The length of a SEND is its argument on 8 bits (R67). -/
theorem sendLength_eq_ofNat (n : BitVec 9) : sendLength n = BitVec.ofNat 8 n.toNat := rfl

/-- The same block in another state of `st` and with another last result. -/
def State.withResult (x : St) (last : Status) (r : Byte) (s : State) : State :=
  { s with st := x, status := last, resLen := r }

/-- Acceptance of RECV overwrites the state and the last result without reading them (R82, R181). -/
theorem State.acceptRecv_withResult (x : St) (last : Status) (r : Byte) (n : BitVec 9) (s : State) :
    (s.withResult x last r).acceptRecv n = s.acceptRecv n := by
  unfold State.acceptRecv
  cases recvInRange n <;> rfl

/-- Acceptance of SEND overwrites the state and the last result without reading them (R82, R181). -/
theorem State.acceptSend_withResult (x : St) (last : Status) (r : Byte) (n : BitVec 9) (s : State) :
    (s.withResult x last r).acceptSend n = s.acceptSend n := by
  unfold State.acceptSend
  cases sendInRange n <;> rfl

/-! ## The inputs a tick reads (R90, R121, R151, R202, U12) -/

/-- Two drives agree in the inputs of the block that some rule reads in a tick that starts in state `x`. -/
structure St.ReadsAgree (x : St) (d d' : Drive) : Prop where
  rst : d.rst = d'.rst
  access : x.resting = true → d.bufPort = d'.bufPort
  look : x.resting = false → d.bufPort.any (fun w => !w.getLsbD 16) = d'.bufPort.any (fun w => !w.getLsbD 16)
  command : x.resting = true → d.rst = false → d.cmdPort = d'.cmdPort
  answer : x.sending = true → d.txErr = d'.txErr ∧ (d.txErr = false → d.txReady = d'.txReady)
  counts : x.sending = true → d.rst = true → d.txCounts = d'.txCounts

/-- A look at the buffer port of a busy block shows 0x00 whatever the address (R35). -/
theorem State.hostSeen_of_busy (d : Drive) (s : State) (h : s.st.resting = false) :
    s.hostSeen d = if d.bufPort.any (fun w => !w.getLsbD 16) then 0 else s.hostRdata := by
  have hshown (a : Byte) : s.bufRdata a = 0 := by rw [State.bufRdata, State.busy_eq, h]; rfl
  unfold State.hostSeen
  cases d.bufPort with
  | none => rfl
  | some w =>
    dsimp only
    rw [hshown]
    cases hw : w.getLsbD 16 with
    | true => exact (if_neg (by rw [Option.any_some, hw]; decide)).symm
    | false => exact (if_pos (by rw [Option.any_some, hw]; rfl)).symm

/-- The host's sample depends on what it does at the buffer port, and on a busy block only on whether it looks. -/
theorem State.hostSeen_congr (s : State) {d d' : Drive} (h : s.st.ReadsAgree d d') : s.hostSeen d = s.hostSeen d' := by
  cases hr : s.st.resting with
  | true => rw [State.hostSeen, h.access hr, ← State.hostSeen]
  | false => rw [s.hostSeen_of_busy d hr, s.hostSeen_of_busy d' hr, h.look hr]

/-- The buffer port of a busy block answers a look and drops a write (R88, R89). -/
theorem State.bufServed_of_busy (d : Drive) (s : State) (h : s.st.resting = false) :
    s.bufServed d = { s with hostRdata := s.hostSeen d } := by
  have hb : s.busy = true := by rw [State.busy_eq, h]; rfl
  unfold State.bufServed State.hostSeen
  cases d.bufPort with
  | none => rfl
  | some w =>
    dsimp only
    cases w.getLsbD 16 with
    | true => exact if_pos hb
    | false => rfl

theorem State.bufServed_congr (s : State) {d d' : Drive} (h : s.st.ReadsAgree d d') :
    s.bufServed d = s.bufServed d' := by
  cases hr : s.st.resting with
  | true => rw [State.bufServed, h.access hr, ← State.bufServed]
  | false => rw [s.bufServed_of_busy d hr, s.bufServed_of_busy d' hr, s.hostSeen_congr h]

/-- A sending state does not read `tx_ready` under `tx_err` (R151). -/
theorem State.sendArm_congr (s : State) {d d' : Drive} (herr : d.txErr = d'.txErr)
    (hready : d.txErr = false → d.txReady = d'.txReady) :
    s.sendArm d.txReady d.txErr = s.sendArm d'.txReady d'.txErr := by
  rw [← herr]
  cases he : d.txErr with
  | true => rfl
  | false => rw [hready he]

/-- The arm of a busy tick reads the Transport's answers only while a byte is offered, and no other input of the tick
(R90, R121, R151). -/
theorem State.busyArm_congr (s : State) {d d' : Drive} (h : s.st.ReadsAgree d d') : s.busyArm d = s.busyArm d' := by
  cases hsend : s.st.sending with
  | true =>
    obtain ⟨herr, hready⟩ := h.answer hsend
    rw [State.busyArm_sending d s hsend, State.busyArm_sending d' s hsend, s.sendArm_congr herr hready]
  | false =>
    unfold State.busyArm
    cases hst : s.st with
    | txHeader | txLength | txPayload | txChecksum => rw [hst] at hsend; cases hsend
    | _ => rfl

/-- Only a resting state reads the command port (R81, R90). -/
theorem stateArm_congr (s : State) {d d' : Drive} (h : s.st.ReadsAgree d d') (hr : d.rst = false) :
    stateArm d s = stateArm d' s := by
  unfold stateArm
  cases hready : s.cmdReady with
  | true => simp only [if_true, commandTick, h.command hready hr]
  | false => simp only [Bool.false_eq_true, if_false, s.busyArm_congr h]

/-- Whether a byte offered in a reset tick counts as taken depends on the Transport's answer and its own choice, and
with no byte offered on nothing (R202). -/
theorem State.countsInReset_congr (s : State) {d d' : Drive} (h : s.st.ReadsAgree d d') (hr : d.rst = true) :
    (s.txValid && d.txReady && !d.txErr && d.txCounts) = (s.txValid && d'.txReady && !d'.txErr && d'.txCounts) := by
  cases hsend : s.txValid with
  | false => rfl
  | true =>
    obtain ⟨herr, hready⟩ := h.answer hsend
    rw [← h.counts hsend hr, ← herr]
    cases he : d.txErr with
    | true => simp
    | false => rw [hready he]

theorem State.resetTick_congr (s : State) {d d' : Drive} (h : s.st.ReadsAgree d d') (hr : d.rst = true) :
    s.resetTick d = s.resetTick d' := by
  rw [State.resetTick, State.resetTick, State.resetHandshakes_eq, State.resetHandshakes_eq, s.hostSeen_congr h,
    s.countsInReset_congr h hr]

/-- The block's part of a tick reads no input beyond those (R80, U12). -/
theorem tick_congr (s : State) {d d' : Drive} (h : s.st.ReadsAgree d d') : tick d s = tick d' s := by
  unfold tick
  rw [← h.rst]
  cases hr : d.rst with
  | true => simp only [if_true, s.resetTick_congr h hr]
  | false =>
    have hserved : (s.bufServed d').st.ReadsAgree d d' := (s.bufServed_st d').symm ▸ h
    simp only [Bool.false_eq_true, if_false, bufPortTick_eq, andThen, s.bufServed_congr h, stateArm_congr _ hserved hr]

/-- A tick is the environment's part and then the block's (R80). -/
theorem step_cons (s : State) (d : Drive) (ds : List Drive) :
    step { s with script := d :: ds } =
      tick d { s with rxStream := (if d.rxLose then [] else s.rxStream) ++ d.rxArrive, script := ds } := rfl

/-! ## The rows of the state graph (R92) -/

/-- Every state can fail. -/
theorem St.mayBecome_failed (x : St) : x.mayBecome .failed = true := by
  cases x <;> rfl

/-- Every state but Validate can stay. -/
theorem St.mayBecome_self {x : St} (h : x ≠ .validate) : x.mayBecome x = true := by
  cases x with
  | validate => exact absurd rfl h
  | _ => rfl

/-- A resting state can start a receive or a send. -/
theorem St.mayBecome_started {x : St} (h : x.resting = true) :
    x.mayBecome .awaitHeader = true ∧ x.mayBecome .txHeader = true := by
  rcases (St.resting_iff x).mp h with rfl | rfl | rfl <;> exact ⟨rfl, rfl⟩

theorem St.ne_validate_of_reading {x : St} (h : x.reading = true) : x ≠ .validate := by
  rintro rfl
  cases h

theorem St.ne_validate_of_sending {x : St} (h : x.sending = true) : x ≠ .validate := by
  rintro rfl
  cases h

/-- The arm of a busy tick moves along the state graph. -/
theorem State.busyArm_mayBecome (d : Drive) (s : State) (h : s.st.resting = false) :
    s.st.mayBecome (s.busyArm d).st = true := by
  apply State.busyArm_elim (P := fun t => s.st.mayBecome t.st = true) d s h
  case waitOn => exact fun hread _ _ => St.mayBecome_self (St.ne_validate_of_reading hread)
  case stalled => exact fun hsend _ _ => St.mayBecome_self (St.ne_validate_of_sending hsend)
  case header => intro _ _ hst _ _; rw [hst]; rfl
  case length => intro b _ hst _ _; rw [hst]; dsimp only; split <;> rfl
  case payload => intro _ _ hst _ _; rw [hst]; dsimp only; split <;> rfl
  case checksum => intro _ _ hst _; rw [hst]; rfl
  case valid => intro hst _; rw [hst]; rfl
  case sentHeader => intro hst _ _; rw [hst]; rfl
  case sentLength => intro hst _ _; rw [hst]; rfl
  case sentPayload => intro hst _ _; rw [hst]; dsimp only; split <;> rfl
  case sentChecksum => intro hst _ _; rw [hst]; rfl
  case waitOver | wrongHeader | tooLong | late | invalid | writeFailed => intros; exact St.mayBecome_failed _

/-! ## Ticks without a command (R87) -/

/-- What holds of the next `k + 1` drives, and of the silent one, holds of the coming tick's and of the `k` after it. -/
theorem State.drive_of_take {P : Drive → Prop} {s : State} {k : Nat} (hidle : P Drive.idle)
    (h : ∀ d ∈ s.script.take (k + 1), P d) : P s.drive ∧ ∀ d ∈ s.script.tail.take k, P d := by
  unfold State.drive
  cases hs : s.script with
  | nil => exact ⟨hidle, by simp⟩
  | cons d ds =>
    rw [hs, List.take_succ_cons, List.forall_mem_cons] at h
    exact h

/-- A tick of a resting block without a command changes at most what the ports and the environment own (R87). -/
theorem step_resting_noCommand (s : State) (hr : s.drive.rst = false) (hc : s.drive.cmdPort = none)
    (h : s.st.resting = true) : ∃ m r, step s = .next { s.arrive with buf := m, hostRdata := r } := by
  obtain ⟨m, r, hserved, -⟩ := State.bufServed_cases s.drive s.arrive
  refine ⟨m, r, ?_⟩
  rw [step_resting s hr h, hserved, State.cmdServed, hc]

/-! ## Ticks with a silent environment (R80, R121) -/

/-- With a silent environment the tick starts from the registers and streams as they are. -/
theorem State.sampled_of_silent {s : State} (h : s.script = []) : s.sampled = s := by
  cases s
  cases h
  simp [State.sampled, State.arrive, State.drive, State.hostSeen, Drive.idle]

/-- The same block with other unread bytes and another script. -/
def State.withEnv (rx : List Byte) (ds : List Drive) (s : State) : State := { s with rxStream := rx, script := ds }

/-- The byte arm looks neither at the bytes behind its own nor at the script (R121). -/
theorem State.byteArm_withEnv (b : Byte) (rx : List Byte) (ds : List Drive) (s : State) :
    (s.withEnv rx ds).byteArm b = (s.byteArm b).withEnv rx ds := by
  have hst : (s.withEnv rx ds).st = s.st := rfl
  simp only [State.byteArm, hst]
  cases s.st <;> dsimp only [State.awaitHeaderByte, State.readLengthByte, State.readPayloadByte]
  case awaitHeader | readLength | readPayload => rw [apply_ite (State.withEnv rx ds)]; rfl
  all_goals rfl

theorem State.byteArm_script (b : Byte) (s : State) : (s.byteArm b).script = s.script := by
  have h := congrArg State.script (s.byteArm_withEnv b s.rxStream s.script)
  exact h

theorem State.byteArm_withRx (b : Byte) (rx : List Byte) (s : State) :
    ({ s with rxStream := rx } : State).byteArm b = { s.byteArm b with rxStream := rx } := by
  refine (s.byteArm_withEnv b rx s.script).trans ?_
  rw [State.withEnv, ← s.byteArm_script b]

theorem State.drive_of_silent {s : State} (h : s.script = []) : s.drive = Drive.idle := by
  rw [State.drive, h, List.headD_nil]

/-- A reading block that is offered a byte takes it in one tick (R121). -/
theorem step_silent_byte {s : State} (hs : s.script = []) (h : s.st.reading = true) (b : Byte) (l : List Byte) :
    step { s with rxStream := b :: l } = .next { s.byteArm b with rxStream := l } := by
  have hdrive : ({ s with rxStream := b :: l } : State).drive = Drive.idle := State.drive_of_silent hs
  have hoffered : ({ s with rxStream := b :: l } : State).arrive.rxStream = b :: l := by
    rw [State.arrive_rxStream, hdrive]
    simp [Drive.idle]
  rw [step_takes_byte { s with rxStream := b :: l } b l (by rw [hdrive]; rfl) h hoffered,
    State.sampled_of_silent (by exact hs), ← s.byteArm_withRx b l]

/-- Validate gives its verdict in one tick (R135, R136). -/
theorem step_silent_validate {s : State} (hs : s.script = []) (h : s.st = .validate) :
    step s = .next s.validateArm := by
  rw [step_validate s (by rw [State.drive_of_silent hs]; rfl) h, State.sampled_of_silent hs]

/-- A receive that takes no further byte, for want of one or of a state that asks, ends with Validate's verdict or at
once (R31, R135). -/
theorem State.receiveAll_stops (s : State) (l : List Byte) (h : l = [] ∨ s.st.reading = false) :
    s.receiveAll l =
      if s.st = .validate then ({ s with rxStream := l } : State).validateArm else { s with rxStream := l } := by
  cases l with
  | nil => rfl
  | cons b l =>
    have hr : ¬ s.rxReady = true := by
      rcases h with hnil | hr
      · cases hnil
      · exact Bool.not_eq_true _ ▸ hr
    rw [State.receiveAll, if_neg hr]

/-- Such a receive takes at most the tick of Validate. -/
theorem run_receiveAll_stops {s : State} (hs : s.script = []) (l : List Byte) (h : l = [] ∨ s.st.reading = false) :
    ∃ k, k ≤ 1 ∧ run k { s with rxStream := l } = .next (s.receiveAll l) := by
  rw [s.receiveAll_stops l h]
  by_cases hv : s.st = .validate
  · refine ⟨1, le_rfl, ?_⟩
    rw [if_pos hv, run_succ_of_step (step_silent_validate (by exact hs) (by exact hv)), run_zero]
  · exact ⟨0, Nat.zero_le 1, by rw [if_neg hv, run_zero]⟩

/-- A prompt receive is a run of ticks: one for each byte taken, and one for Validate (R121, R135, R139). -/
theorem run_receiveAll (l : List Byte) {s : State} (hs : s.script = []) :
    ∃ k, k ≤ l.length + 1 ∧ run k { s with rxStream := l } = .next (s.receiveAll l) := by
  induction l generalizing s with
  | nil => exact run_receiveAll_stops hs [] (.inl rfl)
  | cons b l ih =>
    cases hr : s.st.reading with
    | true =>
      obtain ⟨k, hk, hrun⟩ := ih ((s.byteArm_script b).trans hs)
      refine ⟨k + 1, Nat.succ_le_succ hk, ?_⟩
      rw [run_succ_of_step (step_silent_byte hs hr b l), hrun, State.receiveAll_of_asking s b l hr]
    | false =>
      obtain ⟨k, hk, hrun⟩ := run_receiveAll_stops hs (b :: l) (.inr hr)
      exact ⟨k, by omega, hrun⟩

end Sys2Proof.Machine
end

section
/-! The obligations about commands and single ticks. -/

namespace Sys2Proof.Machine

/-! ## Ticks of a resting block (R87, R137, R138) -/

/-- Settles O24: no tick of the run has a command, so each leaves the registers to the next. -/
theorem restingBlockKeepsItsResult : Obligations.RestingBlockKeepsItsResult := by
  intro k s t hrest hquiet hrun
  induction k generalizing s with
  | zero =>
    obtain rfl : s = t := Host.Outcome.next.inj hrun
    rfl
  | succ k ih =>
    obtain ⟨⟨hr, hc⟩, hlater⟩ := State.drive_of_take ⟨rfl, rfl⟩ hquiet
    obtain ⟨m, r, hstep⟩ := step_resting_noCommand s hr hc hrest
    rw [run_succ_of_step hstep] at hrun
    exact ih { s.arrive with buf := m, hostRdata := r } hrest hlater hrun

/-! ## The frame as a run (R80, R121, R139) -/

/-- Settles O34: the run of the prompt receive of all unread bytes, the frame's last. -/
theorem frameIsARunOfTicks : Obligations.FrameIsARunOfTicks := by
  intro s p c hs _
  obtain ⟨k, hk, hrun⟩ := run_receiveAll (s.rxStream ++ frameBytes s.cfg.header p c) hs
  refine ⟨k, ?_, hrun⟩
  rw [List.length_append, frameBytes_length] at hk
  omega

/-! ## The state graph (R92) -/

/-- Settles O49: the outcomes of a resting tick, then those of a busy one. -/
theorem stateGraphIsComplete : Obligations.StateGraphIsComplete := by
  intro s t hr hstep
  apply step_elim (P := fun t => s.st.mayBecome t.st = true) hstep
  cases h : s.st.resting with
  | true =>
    obtain ⟨hreceive, hsend⟩ := St.mayBecome_started h
    have hstay : s.st.mayBecome s.st = true := St.mayBecome_self (by rintro hv; rw [hv] at h; cases h)
    exact step_resting_elim s hr h fun _ _ _ =>
      ⟨fun _ => hstay, St.mayBecome_failed _, fun _ _ => hreceive, fun _ _ => hsend⟩
  | false => exact ⟨_, step_busy s hr h, State.busyArm_mayBecome s.drive s.sampled h⟩

/-! ## Inputs that no rule reads (R90, R121, R151, R202, U12) -/

/-- Settles O55: each kind of tick, by what its parts read of the drive. -/
theorem unreadInputsDoNotMatter : Obligations.UnreadInputsDoNotMatter := by
  intro s d d' ds hrst hlose harrive hbufRest hcmd hbufBusy hanswer hcounts
  rw [step_cons, step_cons, hlose, harrive]
  refine tick_congr _ ⟨hrst, fun h => hbufRest (s.busy_eq_false_iff.mpr h), fun h => hbufBusy ?_,
    fun h => hcmd (s.busy_eq_false_iff.mpr h), hanswer, hcounts⟩
  exact congrArg not h

/-! ## Commands accepted (R83 to R87) -/

/-- Settles O16: `State.acceptRecv_of_pos`; the outputs are those of AwaitHeader. -/
theorem recvStartsReceive : Obligations.RecvStartsReceive := by
  intro n s hready hn t
  refine ⟨?_, rfl, rfl, rfl⟩
  rw [exec_recv_ready hready, s.acceptRecv_of_pos hn]
  rfl

/-- Settles O17: `State.acceptRecv_zero`, which clears the last result before it fails. -/
theorem recvZeroFails : Obligations.RecvZeroFails := by
  intro s hready t
  refine ⟨?_, rfl, rfl, rfl⟩
  rw [exec_recv_ready hready, s.acceptRecv_zero]
  rfl

/-- Settles O18: `State.acceptSend_of_inRange`; the outputs are those of TxHeader. -/
theorem sendStartsSend : Obligations.SendStartsSend := by
  intro n s hready hn hn' t
  refine ⟨?_, rfl, rfl, rfl, State.txData_of_txHeader t rfl⟩
  rw [exec_send_ready hready, s.acceptSend_of_inRange ⟨hn, hn'⟩, sendLength_eq_ofNat]

/-- Settles O19: `State.acceptSend_of_outOfRange`. -/
theorem sendOutOfRangeFails : Obligations.SendOutOfRangeFails := by
  intro n s hready hn t
  refine ⟨?_, rfl, rfl, rfl⟩
  rw [exec_send_ready hready, s.acceptSend_of_outOfRange (by omega)]
  rfl

/-- Settles O23: both blocks accept, and acceptance reads neither the state nor the last result. -/
theorem restingStatesBehaveAlike : Obligations.RestingStatesBehaveAlike := by
  intro s x last r n hs hx
  have hready : (s.withResult x last r).cmdReady = true := hx
  constructor
  · rw [exec_recv_ready hs, ← s.acceptRecv_withResult x last r]
    exact exec_recv_ready hready n
  · rw [exec_send_ready hs, ← s.acceptSend_withResult x last r]
    exact exec_send_ready hready n

/-! ## Commands turned away (R81, R90) -/

/-- Settles O20: exec leaves a busy block alone, and of the inputs a tick of it reads the command port is none. -/
theorem commandsAreIgnoredWhileBusy : Obligations.CommandsAreIgnoredWhileBusy := by
  intro s hbusy
  refine ⟨fun n => ⟨exec_recv_busy hbusy n, exec_send_busy hbusy n⟩, fun d ds offered => ?_⟩
  have notResting {p : Prop} (h : s.busy = false) : p := absurd (hbusy.symm.trans h) (by decide)
  exact unreadInputsDoNotMatter s { d with cmdPort := offered } d ds rfl rfl rfl (fun _ => rfl)
    (fun h _ => notResting h) (fun _ => rfl) (fun _ => ⟨rfl, fun _ => rfl⟩) (fun _ _ => rfl)

end Sys2Proof.Machine
end

section
/-! PacketCodec: the XOR-fold over bits, over orders and over whole frames, and the accumulator that computes it. -/

namespace Sys2Proof.Machine

/-! ## The fold (R100 to R102) -/

/-- The checksum folds the header, the length and the payload bytes that the length counts (R100). -/
theorem checksum_eq_xorFold_take (h n : Byte) (p : List Byte) :
    checksum h n p = xorFold (h :: n :: p.take n.toNat) := rfl

/-- Bit `k` of a fold is the parity of the bytes that have it set: no carry between bit positions (R102). -/
theorem getLsbD_xorFold (l : List Byte) (k : Nat) :
    (xorFold l).getLsbD k = decide (l.countP (fun b => b.getLsbD k) % 2 = 1) := by
  induction l with
  | nil => simp
  | cons b l ih =>
    rw [xorFold_cons, BitVec.getLsbD_xor, ih, List.countP_cons]
    cases b.getLsbD k with
    | false => simp
    | true =>
      rw [Bool.true_xor, if_pos rfl, ← decide_not]
      exact decide_eq_decide.mpr (by omega)

/-- A fold does not depend on the order of its bytes (R112 (b)). -/
theorem xorFold_perm {l r : List Byte} (h : l.Perm r) : xorFold l = xorFold r :=
  h.foldl_eq' (fun x _ y _ z => by rw [BitVec.xor_assoc, BitVec.xor_comm x, ← BitVec.xor_assoc]) 0

/-- A change `d` of one byte is a change `d` of the fold (R111). -/
theorem xorFold_set (p : List Byte) (i : Nat) (d : Byte) (hi : i < p.length) :
    xorFold (p.set i (p.getD i 0 ^^^ d)) = xorFold p ^^^ d := by
  induction p generalizing i with
  | nil => exact absurd hi (Nat.not_lt_zero i)
  | cons b p ih =>
    cases i with
    | zero => simp [BitVec.xor_assoc, BitVec.xor_comm d]
    | succ i =>
      rw [List.getD_cons_succ, List.set_cons_succ, xorFold_cons, xorFold_cons, ih i (Nat.lt_of_succ_lt_succ hi),
        BitVec.xor_assoc]

/-! ## Whole frames (R106, R108, R110, R111) -/

/-- The fold of a whole frame is the checksum byte's difference from the fold of the bytes before it. -/
theorem xorFold_frame (h n c : Byte) (p : List Byte) :
    xorFold (h :: n :: (p ++ [c])) = (h ^^^ n ^^^ xorFold p) ^^^ c := by
  simp [BitVec.xor_assoc]

/-- The fold of a whole frame is 0x00 exactly when its last byte is the fold of the others (R110). -/
theorem xorFold_frame_eq_zero_iff (h n c : Byte) (p : List Byte) :
    xorFold (h :: n :: (p ++ [c])) = 0 ↔ c = h ^^^ n ^^^ xorFold p := by
  rw [xorFold_frame]
  exact BitVec.xor_eq_zero_iff.trans eq_comm

/-- Validity of a frame whose payload is as long as its length byte says (R108). -/
theorem validFrame_iff {h n c : Byte} {p : List Byte} (hp : p.length = n.toNat) :
    validFrame h n p c = true ↔ c = h ^^^ n ^^^ xorFold p := by
  rw [validFrame, decide_eq_true_iff, checksum_eq_xorFold hp, xorFold_cons, xorFold_cons, BitVec.xor_assoc]

theorem validFrame_eq_false {h n c : Byte} {p : List Byte} (hp : p.length = n.toNat) (hc : c ≠ h ^^^ n ^^^ xorFold p) :
    validFrame h n p c = false :=
  Bool.eq_false_iff.mpr fun hv => hc ((validFrame_iff hp).mp hv)

/-- A change `d` of the fold of a valid frame shows in the checksum byte, unless `d` is 0x00 (R111). -/
theorem checksum_ne_of_fold_changed {h n c h' n' c' d : Byte} {p p' : List Byte} (hd : d ≠ 0)
    (hvalid : c = h ^^^ n ^^^ xorFold p)
    (hchange : xorFold (h' :: n' :: (p' ++ [c'])) = xorFold (h :: n :: (p ++ [c])) ^^^ d) :
    c' ≠ h' ^^^ n' ^^^ xorFold p' := by
  intro hc'
  rw [(xorFold_frame_eq_zero_iff h n c p).mpr hvalid, (xorFold_frame_eq_zero_iff h' n' c' p').mpr hc'] at hchange
  exact hd (by simpa using hchange.symm)

theorem twoPow_ne_zero {k : Nat} (hk : k < 8) : BitVec.twoPow 8 k ≠ 0 := by
  intro h
  have hbit := congrArg (fun b : Byte => b.getLsbD k) h
  simp [hk] at hbit

/-- A length that `encode` takes gives the frame of the first `n` payload bytes (R106). -/
theorem encodeFrame_ok (h : Byte) (p : List Byte) {n : Nat} (hn : 1 ≤ n ∧ n ≤ 255) :
    encodeFrame h p n = .ok (frameBytes h (p.take n) (checksum h (BitVec.ofNat 8 n) p)) :=
  if_neg (by rw [maxPayload]; omega)

theorem encodeFrame_error (h : Byte) (p : List Byte) {n : Nat} (hn : n < 1 ∨ 255 < n) :
    encodeFrame h p n = .error .invalidLength :=
  if_pos hn

/-- The bytes of an encoded frame in wire order (R60, R106). -/
theorem frameBytes_take {h c : Byte} {p : List Byte} {n : Nat} (hn : n ≤ p.length) :
    frameBytes h (p.take n) c = [h, BitVec.ofNat 8 n] ++ p.take n ++ [c] := by
  simp [frameBytes, hn]

/-! ## The accumulator (R103, R104) -/

/-- Any number of `csum_acc` fold their bytes into `csum` and change nothing else (R104). -/
theorem State.foldl_csumAcc (l : List Byte) (s : State) :
    l.foldl (fun t b => t.csumAcc b) s = { s with csum := s.csum ^^^ xorFold l } := by
  induction l generalizing s with
  | nil => simp
  | cons b l ih =>
    rw [List.foldl_cons, ih, xorFold_cons, ← BitVec.xor_assoc]
    rfl

end Sys2Proof.Machine
end

section
/-! The obligations about the packet codec. -/

namespace Sys2Proof.Machine

/-! ## What the checksum is (R100 to R102, R112) -/

/-- Settles O8: the fold over the bytes that the length counts. -/
theorem checksumIsTheFold : Obligations.ChecksumIsTheFold := by
  refine ⟨fun h n p _ => ⟨?fold, fun q hq => ?unused⟩, by decide, by decide⟩
  case fold => rw [checksum_eq_xorFold_take, xorFold_cons, xorFold_cons, BitVec.xor_assoc]
  case unused => rw [checksum_eq_xorFold_take, hq, checksum_eq_xorFold_take]

/-- Settles O9: the parity of a fold, bit by bit. -/
theorem checksumIsParityPerBit : Obligations.ChecksumIsParityPerBit := by
  intro h n p k hp
  rw [checksum_eq_xorFold hp, getLsbD_xorFold]

/-- Settles O13: the payload's fold does not see its order. -/
theorem payloadOrderIsUndetected : Obligations.PayloadOrderIsUndetected := by
  intro h n p q hp hperm
  rw [checksum_eq_xorFold hp, checksum_eq_xorFold (hperm.length_eq.symm.trans hp)]
  exact xorFold_perm ((hperm.cons n).cons h)

/-! ## Frames (R106, R110, R111) -/

/-- Settles O11: the two ranges of `encode`. -/
theorem encodeRange : Obligations.EncodeRange := by
  intro h p n hn
  refine ⟨encodeFrame_error h p, fun hrange => ⟨_, encodeFrame_ok h p hrange, ?length, frameBytes_take hn⟩⟩
  case length => rw [frameBytes_length, List.length_take_of_le hn]

/-- Settles O10: a checksum byte that is the fold of the bytes before it makes the fold of all of them 0x00. -/
theorem wholeFrameFoldIsZero : Obligations.WholeFrameFoldIsZero := by
  constructor
  · intro h p f n hn hf
    by_cases hrange : 1 ≤ n ∧ n ≤ 255
    · have hbyte : (BitVec.ofNat 8 n).toNat = n := by rw [BitVec.toNat_ofNat]; omega
      rw [encodeFrame_ok h p hrange, Except.ok.injEq, frameBytes_take hn] at hf
      rw [← hf, List.append_assoc]
      refine (xorFold_frame_eq_zero_iff h (BitVec.ofNat 8 n) _ (p.take n)).mpr ?_
      rw [checksum_eq_xorFold_take, hbyte, xorFold_cons, xorFold_cons, BitVec.xor_assoc]
    · rw [encodeFrame_error h p (by omega)] at hf
      cases hf
  · intro h n c p hp
    rw [validFrame_iff hp, xorFold_frame_eq_zero_iff]

/-- Settles O12: each flipped bit is a change of the fold that is not 0x00. -/
theorem checksumSeesEveryOddChange : Obligations.ChecksumSeesEveryOddChange := by
  intro h n c p hp hv
  have hvalid := (validFrame_iff hp).mp hv
  refine ⟨fun h' n' c' p' _ hchange => ?anyChange, fun k hk => ?oneBit⟩
  case anyChange =>
    refine checksum_ne_of_fold_changed hchange hvalid ?_
    rw [← BitVec.xor_assoc, BitVec.xor_self, BitVec.zero_xor]
  case oneBit =>
    have hd := twoPow_ne_zero hk
    generalize BitVec.twoPow 8 k = d at hd
    refine ⟨validFrame_eq_false hp ?header, ?length, validFrame_eq_false hp ?checksum, fun i hi =>
      validFrame_eq_false (by rw [List.length_set, hp]) ?payload⟩
    all_goals refine checksum_ne_of_fold_changed hd hvalid ?_
    all_goals rw [xorFold_frame, xorFold_frame]
    case payload =>
      rw [xorFold_set p i d hi]
      ac_rfl
    all_goals ac_rfl

/-! ## The accumulator computes it (R103 to R105) -/

/-- Settles O14: the accumulator folds, and the order does not matter. -/
theorem accumulatorComputesChecksum : Obligations.AccumulatorComputesChecksum := by
  intro s h n p order _ hperm
  rw [State.foldl_csumAcc, xorFold_perm hperm, checksum_eq_xorFold_take, State.csumClr_csum, State.csumClr]
  simp

end Sys2Proof.Machine
end

section
/-! Runs of a busy block, and what a send has handed to the Transport after each of its ticks (R151 to R156). -/

namespace Sys2Proof.Machine

/-! ## Runs of a busy block -/

/-- `k` ticks lead from `s` to `t`, and the block is busy at the start of each of them. -/
def State.BusyRun (k : Nat) (s t : State) : Prop :=
  run k s = .next t ∧ ∀ j u, j < k → run j s = .next u → u.busy = true

theorem State.BusyRun.zero (s : State) : s.BusyRun 0 s :=
  ⟨rfl, fun _ _ hj => absurd hj (Nat.not_lt_zero _)⟩

theorem State.BusyRun.cons {k : Nat} {s u t : State} (hbusy : s.busy = true) (hstep : step s = .next u)
    (h : u.BusyRun k t) : s.BusyRun (k + 1) t := by
  obtain ⟨hrun, hbefore⟩ := h
  refine ⟨(run_succ_of_step hstep k).trans hrun, fun j v hj hv => ?_⟩
  cases j with
  | zero =>
    rw [run_zero, Host.Outcome.next.injEq] at hv
    exact hv ▸ hbusy
  | succ j => exact hbefore j v (Nat.lt_of_succ_lt_succ hj) (run_succ_of_step hstep j ▸ hv)

theorem State.BusyRun.uncons {k : Nat} {s t : State} (h : s.BusyRun (k + 1) t) :
    s.busy = true ∧ ∃ u, step s = .next u ∧ u.BusyRun k t := by
  obtain ⟨hrun, hbefore⟩ := h
  obtain ⟨u, hu⟩ := step_next s
  refine ⟨hbefore 0 s (Nat.succ_pos k) rfl, u, hu, run_succ_of_step hu k ▸ hrun, fun j v hj hv => ?_⟩
  exact hbefore (j + 1) v (Nat.succ_lt_succ hj) ((run_succ_of_step hu j).trans hv)

/-- A busy run goes on where another one ends. -/
theorem State.BusyRun.trans {a b : Nat} {s u t : State} (h : s.BusyRun a u) (h' : u.BusyRun b t) :
    s.BusyRun (a + b) t := by
  induction a generalizing s with
  | zero =>
    obtain ⟨hrun, -⟩ := h
    obtain rfl : s = u := Host.Outcome.next.inj hrun
    rwa [Nat.zero_add]
  | succ a ih =>
    obtain ⟨hbusy, v, hstep, hv⟩ := h.uncons
    rw [Nat.add_right_comm]
    exact (ih hv).cons hbusy hstep

/-- A block that is not busy is at the end of its busy run. -/
theorem State.BusyRun.eq_of_resting {k : Nat} {s t : State} (h : s.BusyRun k t) (hrest : s.st.resting = true) :
    s = t := by
  cases k with
  | zero =>
    obtain ⟨hrun, -⟩ := h
    exact Host.Outcome.next.inj hrun
  | succ k =>
    obtain ⟨hbusy, -⟩ := h.uncons
    exact absurd (hbusy.symm.trans (s.busy_eq_false_iff.mpr hrest)) (by decide)

/-! ## The frame of a send -/

/-- The frame of the first `n` buffer entries of `s` (R106, R156). -/
def State.sendFrame (n : Byte) (s : State) : List Byte :=
  frameBytes s.cfg.header (bufBytes s.buf n.toNat) (checksum s.cfg.header n (bufBytes s.buf n.toNat))

/-- The frame of a send is the encoder's frame of the buffer (R106). -/
theorem encodeFrame_bufBytes (s : State) (n : Byte) (hn : 1 ≤ n.toNat) :
    encodeFrame s.cfg.header (bufBytes s.buf n.toNat) n.toNat = .ok (s.sendFrame n) := by
  rw [encodeFrame_ok _ _ ⟨hn, by have := n.isLt; omega⟩, List.take_of_length_le (by simp), BitVec.ofNat_toNat,
    BitVec.setWidth_eq]
  rfl

/-- The bytes of the frame of a send, in wire order. -/
theorem State.sendFrame_eq (s : State) (n : Byte) :
    s.sendFrame n = s.cfg.header :: n :: (bufBytes s.buf n.toNat ++
      [xorFold (s.cfg.header :: n :: bufBytes s.buf n.toNat)]) := by
  rw [State.sendFrame, frameBytes, checksum_eq_xorFold (by simp)]
  simp

theorem State.sendFrame_length (s : State) (n : Byte) : (s.sendFrame n).length = n.toNat + 3 := by
  simp [State.sendFrame_eq]

/-! ## The bytes a send has handed over (R33, R151 to R155) -/

theorem State.sentArm_txHeader (s : State) (h : s.st = .txHeader) : s.sentArm = s.headerSent := by
  rw [State.sentArm, h]

theorem State.sentArm_txLength (s : State) (h : s.st = .txLength) : s.sentArm = s.lengthSent := by
  rw [State.sentArm, h]

theorem State.sentArm_txPayload (s : State) (h : s.st = .txPayload) : s.sentArm = s.payloadSent := by
  rw [State.sentArm, h]

theorem State.sentArm_txChecksum (s : State) (h : s.st = .txChecksum) : s.sentArm = s.checksumSent := by
  rw [State.sentArm, h]

/-- `u` is in the send of `n` bytes that was accepted in `s`, with `m` bytes of its frame handed to the Transport: the
state and the index say which byte is next, and the accumulator is the fold of the bytes handed over. -/
structure State.Sending (n : Byte) (m : Nat) (s u : State) : Prop where
  cfg : u.cfg = s.cfg
  buf : u.buf = s.buf
  len : u.len = n
  sent : u.txStream = s.txStream ++ (s.sendFrame n).take m
  csum : u.csum = xorFold ((s.sendFrame n).take m)
  place : (u.st = .txHeader ∧ m = 0 ∧ u.idx = 0) ∨ (u.st = .txLength ∧ m = 1 ∧ u.idx = 0) ∨
    (u.st = .txPayload ∧ m = u.idx.toNat + 2 ∧ u.idx.toNat < n.toNat) ∨ (u.st = .txChecksum ∧ m = n.toNat + 2)

/-- `u` is a send's end: Done with the whole frame handed over, or Failed with only the first bytes of it (R156). -/
structure State.SendOver (n : Byte) (s u : State) : Prop where
  buf : u.buf = s.buf
  result : (u.st = .done ∧ u.txStream = s.txStream ++ s.sendFrame n) ∨
    (u.st = .failed ∧ ∃ m, m < (s.sendFrame n).length ∧ u.txStream = s.txStream ++ (s.sendFrame n).take m)

theorem State.Sending.sending {n : Byte} {m : Nat} {s u : State} (h : s.Sending n m u) : u.st.sending = true :=
  (St.sending_iff _).mpr (by rcases h.place with ⟨hst, -⟩ | ⟨hst, -⟩ | ⟨hst, -⟩ | ⟨hst, -⟩ <;> simp [hst])

theorem State.Sending.lt_length {n : Byte} {m : Nat} {s u : State} (h : s.Sending n m u) :
    m < (s.sendFrame n).length := by
  rw [State.sendFrame_length]
  have := h.place
  omega

theorem State.SendOver.resting {n : Byte} {s u : State} (h : s.SendOver n u) : u.st.resting = true := by
  rcases h.result with ⟨hst, -⟩ | ⟨hst, -⟩ <;> rw [hst] <;> rfl

/-- The byte on `tx_data` is the next byte of the frame (R33). -/
theorem State.Sending.offered {n : Byte} {m : Nat} {s u : State} (h : s.Sending n m u) :
    (s.sendFrame n)[m]? = some u.txData := by
  obtain ⟨hcfg, hbuf, hlen, -, hcsum, hplace⟩ := h
  rw [State.sendFrame_eq] at hcsum ⊢
  rcases hplace with ⟨hst, rfl, -⟩ | ⟨hst, rfl, -⟩ | ⟨hst, rfl, hlt⟩ | ⟨hst, rfl⟩
  · rw [u.txData_of_txHeader hst, hcfg]
    rfl
  · rw [u.txData_of_txLength hst, hlen]
    rfl
  · rw [u.txData_of_txPayload hst, hbuf, List.getElem?_cons_succ, List.getElem?_cons_succ,
      List.getElem?_append_left (by rwa [bufBytes_length]), bufBytes_get _ _ _ hlt]
  · rw [u.txData_of_txChecksum hst, hcsum]
    simp

/-- A byte taken is one more byte of the frame. -/
theorem State.Sending.take_succ {n : Byte} {m : Nat} {s u : State} (h : s.Sending n m u) :
    (s.sendFrame n).take (m + 1) = (s.sendFrame n).take m ++ [u.txData] := by
  rw [List.take_add_one, h.offered]
  rfl

/-- What the Transport's Ok leads to (R152 to R155). -/
theorem State.Sending.sentArm {n : Byte} {m : Nat} {s u : State} (hn : 1 ≤ n.toNat) (h : s.Sending n m u) :
    let t := ({ u with txStream := u.txStream ++ [u.txData] } : State).sentArm
    s.Sending n (m + 1) t ∨ s.SendOver n t := by
  intro t
  have htake := h.take_succ
  obtain ⟨hcfg, hbuf, hlen, hsent, hcsum, hplace⟩ := h
  have hsent : u.txStream ++ [u.txData] = s.txStream ++ (s.sendFrame n).take (m + 1) := by
    rw [hsent, htake, List.append_assoc]
  have hcsum : u.csum ^^^ u.txData = xorFold ((s.sendFrame n).take (m + 1)) := by
    rw [hcsum, htake]
    simp
  rcases hplace with ⟨hst, rfl, hidx⟩ | ⟨hst, rfl, hidx⟩ | ⟨hst, rfl, hlt⟩ | ⟨hst, rfl⟩
  · have ht : t = State.headerSent _ := State.sentArm_txHeader _ hst
    rw [u.txData_of_txHeader hst] at hcsum
    exact .inl (ht ▸ ⟨hcfg, hbuf, hlen, hsent, hcsum, .inr (.inl ⟨rfl, rfl, hidx⟩)⟩)
  · have ht : t = State.lengthSent _ := State.sentArm_txLength _ hst
    rw [u.txData_of_txLength hst] at hcsum
    refine .inl (ht ▸ ⟨hcfg, hbuf, hlen, hsent, hcsum, .inr (.inr (.inl ⟨rfl, ?_⟩))⟩)
    change 0 + 1 + 1 = u.idx.toNat + 2 ∧ u.idx.toNat < n.toNat
    rw [hidx]
    exact ⟨rfl, hn⟩
  · have ht : t = State.payloadSent _ := State.sentArm_txPayload _ hst
    rw [u.txData_of_txPayload hst] at hcsum
    refine .inl (ht ▸ ⟨hcfg, hbuf, hlen, hsent, hcsum, ?_⟩)
    rw [← hlen] at hlt ⊢
    by_cases hend : u.idx + 1 = u.len
    · have hlast : u.idx.toNat + 1 = u.len.toNat := (BitVec8_succ_eq_iff _ _ hlt).mp hend
      exact .inr (.inr (.inr ⟨if_pos hend, by omega⟩))
    · have hnext : (u.idx + 1).toNat = u.idx.toNat + 1 := BitVec8_succ_toNat _ _ hlt
      refine .inr (.inr (.inl ⟨if_neg hend, ?_, (BitVec8_succ_eq_or_lt hlt).resolve_left hend⟩))
      exact (congrArg (· + 2) hnext).symm
  · have ht : t = State.checksumSent _ := State.sentArm_txChecksum _ hst
    refine .inr (ht ▸ ⟨hbuf, .inl ⟨rfl, ?_⟩⟩)
    rwa [List.take_of_length_le (by rw [State.sendFrame_length])] at hsent

/-- The arm of a busy tick leaves the coming ticks' inputs alone. -/
theorem State.busyArm_script (d : Drive) (s : State) (h : s.st.resting = false) : (s.busyArm d).script = s.script := by
  apply State.busyArm_elim (P := fun t => t.script = s.script) d s h <;> intros <;> rfl

/-- A tick of a send: it stays where it is, hands over the next byte, or is over (R151, R156). -/
theorem State.Sending.step {n : Byte} {m : Nat} {s u : State} (hn : 1 ≤ n.toNat) (h : s.Sending n m u)
    (hr : u.drive.rst = false) :
    ∃ t, step u = .next t ∧ t.script = u.script.tail ∧
      (s.Sending n m t ∨ s.Sending n (m + 1) t ∨ s.SendOver n t) := by
  have hsampled : s.Sending n m u.sampled := ⟨h.cfg, h.buf, h.len, h.sent, h.csum, h.place⟩
  refine ⟨_, step_sends u hr h.sending, ?_, ?_⟩
  · rw [← State.busyArm_sending _ _ hsampled.sending,
      State.busyArm_script _ _ (St.not_resting_of_sending hsampled.sending)]
    rfl
  · rcases State.sendArm_cases u.drive.txReady u.drive.txErr u.sampled with ⟨-, e⟩ | ⟨-, -, e⟩ | ⟨-, -, e⟩ <;> rw [e]
    · exact .inr (.inr ⟨h.buf, .inr ⟨rfl, m, h.lt_length, h.sent⟩⟩)
    · exact .inr (hsampled.sentArm hn)
    · exact .inl hsampled

/-- Every busy run of a send, with no reset in it, is in the send or at its end (R156). -/
theorem State.Sending.busyRun {n : Byte} {m : Nat} {s u t : State} (hn : 1 ≤ n.toNat) (h : s.Sending n m u) {k : Nat}
    (hr : noReset k u.script) (hrun : u.BusyRun k t) : (∃ m', s.Sending n m' t) ∨ s.SendOver n t := by
  induction k generalizing m u with
  | zero =>
    obtain ⟨hrun, -⟩ := hrun
    obtain rfl : u = t := Host.Outcome.next.inj hrun
    exact .inl ⟨m, h⟩
  | succ k ih =>
    obtain ⟨hnow, hlater⟩ := State.drive_of_take (P := fun d => d.rst = false) rfl hr
    obtain ⟨-, v, hstep, hrun⟩ := hrun.uncons
    obtain ⟨w, hw, hscript, hplace⟩ := h.step hn hnow
    obtain rfl : v = w := step_unique hstep hw
    rw [← hscript] at hlater
    rcases hplace with h | h | h
    · exact ih h hlater hrun
    · exact ih h hlater hrun
    · exact .inr (hrun.eq_of_resting h.resting ▸ h)

/-- An accepted SEND is a send with no byte handed over (R86). -/
theorem State.Sending.of_accepted {s s1 : State} {n : BitVec 9} (hready : s.cmdReady = true) (hn : 1 ≤ n.toNat)
    (hn' : n.toNat ≤ 255) (h : exec (.send n) s = .next s1) : s.Sending (sendLength n) 0 s1 := by
  rw [exec_send_ready hready, s.acceptSend_of_inRange ⟨hn, hn'⟩, Host.Outcome.next.injEq] at h
  subst h
  exact ⟨rfl, rfl, rfl, by simp, by simp, .inl ⟨rfl, rfl, rfl⟩⟩

/-- A SEND that ends in Done has sent its frame (R156). -/
theorem sent_of_done {n : BitVec 9} {s s1 t : State} {k : Nat} (hready : s.cmdReady = true) (hn : 1 ≤ n.toNat)
    (hn' : n.toNat ≤ 255) (h : exec (.send n) s = .next s1) (hr : noReset k s1.script) (hrun : s1.BusyRun k t)
    (hdone : t.st = .done) : t.txStream = s.txStream ++ s.sendFrame (sendLength n) := by
  have hlen : 1 ≤ (sendLength n).toNat := (sendLength_toNat hn').symm ▸ hn
  have hsend := State.Sending.of_accepted hready hn hn' h
  rcases hsend.busyRun hlen hr hrun with ⟨m, hmid⟩ | ⟨-, ⟨-, hsent⟩ | ⟨hfailed, -⟩⟩
  · have hsending := hmid.sending
    rw [hdone] at hsending
    cases hsending
  · exact hsent
  · rw [hdone] at hfailed
    cases hfailed

end Sys2Proof.Machine
end

section
/-! A frame that comes in time, whatever the ticks its bytes come in: one byte of the met stream after another, the empty
ticks before it included (R121 to R136, R139). -/

namespace Sys2Proof.Machine

/-! ## The met stream, tick by tick -/

/-- With no loss ahead the coming tick is no reset, loses no byte, and leaves no loss ahead (R59). -/
theorem noLoss_drive {s : State} (h : noLoss s.script) :
    s.drive.rst = false ∧ s.drive.rxLose = false ∧ noLoss s.script.tail := by
  unfold State.drive
  cases hs : s.script with
  | nil => exact ⟨rfl, rfl, by simp [noLoss]⟩
  | cons d ds =>
    rw [hs, noLoss, List.forall_mem_cons] at h
    obtain ⟨⟨hr, hl⟩, hlater⟩ := h
    exact ⟨hr, hl, hlater⟩

theorem arrive_rxStream_of_noLoss {s : State} (h : noLoss s.script) :
    s.arrive.rxStream = s.rxStream ++ s.drive.rxArrive := by
  obtain ⟨-, hl, -⟩ := noLoss_drive h
  rw [State.arrive_rxStream, hl]
  rfl

/-- The environment's part of a tick moves bytes from the script to the Transport, and changes none (R46, R59). -/
theorem arrive_bytes {s : State} (h : noLoss s.script) :
    s.arrive.rxStream ++ arrivals s.script.tail = s.rxStream ++ arrivals s.script := by
  rw [arrive_rxStream_of_noLoss h, State.drive]
  cases s.script <;> simp [Drive.idle]

/-- A tick that offers a byte is where the met stream's next byte is met (R139). -/
theorem metStream_of_offered {s : State} {b : Byte} {rest : List Byte} (h : noLoss s.script)
    (hrx : s.arrive.rxStream = b :: rest) (waited : Nat) :
    metStream waited s.rxStream s.script = (waited, b) :: metStream 0 rest s.script.tail := by
  rw [arrive_rxStream_of_noLoss h, State.drive] at hrx
  cases hs : s.script with
  | nil =>
    rw [hs, List.headD_nil] at hrx
    have hrx : s.rxStream = b :: rest := by simpa [Drive.idle] using hrx
    rw [hrx]
    cases rest <;> rfl
  | cons d ds =>
    rw [hs, List.headD_cons] at hrx
    rw [metStream.eq_3, hrx]
    rfl

/-- A tick that offers no byte is one more empty tick before the met stream's next byte (R139). -/
theorem metStream_of_empty {s : State} (h : noLoss s.script) (hrx : s.arrive.rxStream = []) (waited : Nat) :
    metStream waited s.rxStream s.script = metStream (waited + 1) [] s.script.tail := by
  rw [arrive_rxStream_of_noLoss h, List.append_eq_nil_iff, State.drive] at hrx
  obtain ⟨hunread, harrive⟩ := hrx
  rw [hunread]
  cases hs : s.script with
  | nil => rfl
  | cons d ds =>
    rw [hs, List.headD_cons] at harrive
    rw [metStream.eq_3, harrive]
    rfl

/-- The empty ticks before the next byte are counted on from those that have gone by. -/
theorem waited_le_of_metStream {ds : List Drive} {waited g : Nat} {b : Byte} {unread : List Byte}
    {met : List (Nat × Byte)} (h : metStream waited unread ds = (g, b) :: met) : waited ≤ g := by
  induction ds generalizing waited unread with
  | nil =>
    cases unread with
    | nil => cases h
    | cons c rest =>
      rw [metStream, List.cons.injEq, Prod.mk.injEq] at h
      obtain ⟨⟨hg, -⟩, -⟩ := h
      exact hg.le
  | cons d ds ih =>
    rw [metStream.eq_3] at h
    cases hrx : unread ++ d.rxArrive with
    | nil =>
      rw [hrx] at h
      exact (Nat.le_succ _).trans (ih h)
    | cons c rest =>
      rw [hrx, List.cons.injEq, Prod.mk.injEq] at h
      obtain ⟨⟨hg, -⟩, -⟩ := h
      exact hg.le

/-! ## The wait for a byte, and the tick that takes it -/

/-- The block after `w` empty ticks of a byte wait, with other unread bytes, another host's sample and another script
(R122, R123). -/
def State.waited (w : Nat) (rx : List Byte) (r : Byte) (ds : List Drive) (s : State) : State :=
  { s with
    byteTimer := s.byteTimer + w
    frameTimer :=
      if s.st = .readPayload ∨ s.st = .readChecksum then satTimer s.cfg.timerW (s.frameTimer + w) else s.frameTimer
    rxStream := rx, hostRdata := r, script := ds }

theorem satTimer_add_satTimer (w t k : Nat) : satTimer w (satTimer w t + k) = satTimer w (t + k) := by
  unfold satTimer
  omega

/-- Waits add up. -/
theorem State.waited_waited (v w : Nat) (rx rx' : List Byte) (r r' : Byte) (ds ds' : List Drive) (s : State) :
    (s.waited v rx r ds).waited w rx' r' ds' = s.waited (v + w) rx' r' ds' := by
  unfold State.waited
  by_cases h : s.st = .readPayload ∨ s.st = .readChecksum
  · simp only [if_pos h, satTimer_add_satTimer, Nat.add_assoc]
  · simp only [if_neg h, Nat.add_assoc]

/-- No wait leaves the timers as they are. -/
theorem State.waited_zero {s : State} (h : s.frameTimer < 2 ^ s.cfg.timerW) (rx : List Byte) (r : Byte)
    (ds : List Drive) : s.waited 0 rx r ds = { s with rxStream := rx, hostRdata := r, script := ds } := by
  unfold State.waited
  rw [Nat.add_zero, Nat.add_zero, satTimer_of_lt h, ite_self]

/-- A wait keeps the frame timer within its width (R20, R123). -/
theorem State.waited_frameTimer_lt (s : State) (h : s.frameTimer < 2 ^ s.cfg.timerW) {w : Nat} {rx : List Byte}
    {r : Byte} {ds : List Drive} : (s.waited w rx r ds).frameTimer < 2 ^ s.cfg.timerW := by
  unfold State.waited
  dsimp only
  split
  · exact satTimer_lt _ _
  · exact h

/-- An empty tick before the wait has run out (R122). -/
theorem step_waited {s : State} (hc : s.cfg.wf) (hread : s.st.reading = true) (hr : s.drive.rst = false)
    (hrx : s.arrive.rxStream = []) (hbyte : s.byteTimer + 1 < s.cfg.byteTimeout) :
    step s = .next (s.waited 1 [] (s.arrive.hostSeen s.drive) s.script.tail) := by
  rw [step_waits s hr hread hrx]
  rcases State.waitArm_cases s.sampled hread with ⟨hover, -⟩ | ⟨-, e⟩
  · exact absurd hover (Nat.not_le.mpr hbyte)
  · have hbump : bumpTimer s.cfg.timerW s.byteTimer = s.byteTimer + 1 := bumpTimer_of_waiting hc hbyte
    have hempty : s.sampled.rxStream = [] := hrx
    rw [e, State.waited, ← hbump, ← hempty]
    rfl

theorem State.busy_of_reading (s : State) (h : s.st.reading = true) : s.busy = true := by
  rw [State.busy_eq, St.not_resting_of_reading h]
  rfl

/-- The empty ticks before the next byte of the met stream and the tick that takes it, if the wait does not run out
(R121, R122). -/
theorem State.busyRun_takes_byte {s : State} {g : Nat} {b : Byte} {met : List (Nat × Byte)} (hc : s.cfg.wf)
    (hread : s.st.reading = true) (hft : s.frameTimer < 2 ^ s.cfg.timerW) (hloss : noLoss s.script)
    (hmet : metStream s.byteTimer s.rxStream s.script = (g, b) :: met) (hg : g < s.cfg.byteTimeout) :
    ∃ rx r ds, s.BusyRun (g - s.byteTimer + 1) ((s.waited (g - s.byteTimer) rx r ds).byteArm b) ∧
      noLoss ds ∧ metStream 0 rx ds = met := by
  induction hw : g - s.byteTimer generalizing s with
  | zero =>
    obtain ⟨hr, -, hlater⟩ := noLoss_drive hloss
    cases hrx : s.arrive.rxStream with
    | nil =>
      have hwait := waited_le_of_metStream (metStream_of_empty hloss hrx s.byteTimer ▸ hmet)
      omega
    | cons c rest =>
      rw [metStream_of_offered hloss hrx, List.cons.injEq, Prod.mk.injEq] at hmet
      obtain ⟨⟨-, rfl⟩, hmet⟩ := hmet
      refine ⟨rest, s.arrive.hostSeen s.drive, s.script.tail, ?_, hlater, hmet⟩
      refine (State.BusyRun.zero _).cons (s.busy_of_reading hread) ?_
      rw [State.waited_zero hft]
      exact step_takes_byte s c rest hr hread hrx
  | succ w ih =>
    obtain ⟨hr, -, hlater⟩ := noLoss_drive hloss
    cases hrx : s.arrive.rxStream with
    | nil =>
      rw [metStream_of_empty hloss hrx] at hmet
      have hstep := step_waited hc hread hr hrx (by omega)
      have hbyte : (s.waited 1 [] (s.arrive.hostSeen s.drive) s.script.tail).byteTimer = s.byteTimer + 1 := rfl
      obtain ⟨rx, r, ds, hrun, hrest⟩ := ih (s := s.waited 1 [] (s.arrive.hostSeen s.drive) s.script.tail) hc hread
        (s.waited_frameTimer_lt hft) hlater hmet hg (by omega)
      refine ⟨rx, r, ds, ?_, hrest⟩
      rw [State.waited_waited, Nat.add_comm 1 w] at hrun
      exact hrun.cons (s.busy_of_reading hread) hstep
    | cons c rest =>
      rw [metStream_of_offered hloss hrx, List.cons.injEq, Prod.mk.injEq] at hmet
      omega

end Sys2Proof.Machine
end

section
/-! A whole frame taken in time: the stages of a receive (R124 to R139). -/

namespace Sys2Proof.Machine

/-- `u` starts a byte wait, and `met` is what it will meet (R139). -/
structure State.Meets (met : List (Nat × Byte)) (u : State) : Prop where
  fresh : u.byteTimer = 0
  lossless : noLoss u.script
  stream : metStream 0 u.rxStream u.script = met

/-- The bytes of the met stream are those the Transport holds and those still to come. -/
theorem State.Meets.bytes {met : List (Nat × Byte)} {u : State} (h : u.Meets met) :
    met.map (·.2) = u.rxStream ++ arrivals u.script := by
  rw [← h.stream, metStream_bytes]

/-- A block that asks for a byte takes the next one it meets, after the empty ticks before it (R121, R122). -/
theorem State.Meets.takes_byte {g : Nat} {b : Byte} {met : List (Nat × Byte)} {u : State} (h : u.Meets ((g, b) :: met))
    (hc : u.cfg.wf) (hread : u.st.reading = true) (hft : u.frameTimer < 2 ^ u.cfg.timerW)
    (hg : g < u.cfg.byteTimeout) :
    ∃ rx r ds, u.BusyRun (g + 1) ((u.waited g rx r ds).byteArm b) ∧ noLoss ds ∧ metStream 0 rx ds = met := by
  obtain ⟨hfresh, hloss, hstream⟩ := h
  have htake := State.busyRun_takes_byte hc hread hft hloss (hfresh ▸ hstream) hg
  rwa [hfresh] at htake

/-- `u` is the receive that waited for a header in `s`, once the header is taken (R124). -/
structure State.TookHeader (s u : State) : Prop where
  cfg : u.cfg = s.cfg
  st : u.st = .readLength
  cap : u.cap = s.cap
  csum : u.csum = s.cfg.header
  buf : u.buf = s.buf
  frameTimer : u.frameTimer < 2 ^ u.cfg.timerW

/-- `u` is the receive that waited for a header in `s`, once the header, the length `n` and the payload bytes `q` are
taken, the last of them `ft` ticks after the length byte (R127, R129). -/
structure State.TookPayload (n : Byte) (q : List Byte) (ft : Nat) (s u : State) : Prop where
  cfg : u.cfg = s.cfg
  st : u.st = if q.length = n.toNat then .readChecksum else .readPayload
  len : u.len = n
  idx : u.idx = BitVec.ofNat 8 q.length
  csum : u.csum = xorFold (s.cfg.header :: n :: q)
  buf : u.buf = memWriteAll s.buf 0 q
  frameTimer : u.frameTimer = ft

/-- `u` is the receive that waited for a header in `s`, once a frame with the payload `q` is taken whole and its
checksum byte is the right one (R131). -/
structure State.TookFrame (n : Byte) (q : List Byte) (s u : State) : Prop where
  st : u.st = .validate
  len : u.len = n
  csum : u.csum = u.rxChk
  buf : u.buf = memWriteAll s.buf 0 q

/-! ## One byte of the frame at a time -/

/-- What an accepted RECV leaves for the byte wait of its header (R84). -/
theorem exec_recv_awaits {r r1 : State} {m : BitVec 9} (hready : r.cmdReady = true) (hm : 1 ≤ m.toNat)
    (h : exec (.recv m) r = .next r1) :
    r1.cfg = r.cfg ∧ r1.buf = r.buf ∧ r1.st = .awaitHeader ∧ r1.csum = 0 ∧ r1.cap = recvCapacity m ∧
      r1.byteTimer = 0 ∧ r1.frameTimer = 0 := by
  rw [exec_recv_ready hready, r.acceptRecv_of_pos hm, Host.Outcome.next.injEq] at h
  subst h
  exact ⟨rfl, rfl, rfl, rfl, rfl, rfl, rfl⟩

/-- The capacity of a RECV is its operand, at most 255 (R67). -/
theorem recvCapacity_toNat (m : BitVec 9) : (recvCapacity m).toNat = min m.toNat 255 := by
  simp only [recvCapacity, maxPayload, BitVec.toNat_ofNat]
  omega

/-- The header, in time (R124). -/
theorem State.takes_header {s : State} {g : Nat} {met : List (Nat × Byte)} (hc : s.cfg.wf) (hst : s.st = .awaitHeader)
    (hcsum : s.csum = 0) (hft : s.frameTimer < 2 ^ s.cfg.timerW) (hmet : s.Meets ((g, s.cfg.header) :: met))
    (hg : g < s.cfg.byteTimeout) : ∃ u, s.BusyRun (g + 1) u ∧ u.Meets met ∧ s.TookHeader u := by
  obtain ⟨rx, r, ds, hrun, hloss, hstream⟩ := hmet.takes_byte hc (by rw [hst]; rfl) hft hg
  have hwaited := s.waited_frameTimer_lt hft (w := g) (rx := rx) (r := r) (ds := ds)
  rw [State.byteArm_awaitHeader _ _ (by exact hst)] at hrun
  rcases State.awaitHeaderByte_cases s.cfg.header (s.waited g rx r ds) with ⟨-, e⟩ | ⟨hne, -⟩
  · rw [e] at hrun
    refine ⟨_, hrun, ⟨rfl, hloss, hstream⟩, ⟨rfl, rfl, rfl, ?_, rfl, hwaited⟩⟩
    have hfold : s.csum ^^^ s.cfg.header = s.cfg.header := by rw [hcsum]; exact BitVec.zero_xor
    exact hfold
  · exact absurd rfl hne

/-- A length byte within the capacity, in time (R127). -/
theorem State.TookHeader.takes_length {s u : State} {g : Nat} {n : Byte} {met : List (Nat × Byte)}
    (h : s.TookHeader u) (hc : s.cfg.wf) (hmet : u.Meets ((g, n) :: met)) (hg : g < s.cfg.byteTimeout)
    (hn : n.toNat ≤ s.cap.toNat) : ∃ t, u.BusyRun (g + 1) t ∧ t.Meets met ∧ s.TookPayload n [] 0 t := by
  obtain ⟨hcfg, hst, hcap, hcsum, hbuf, hft⟩ := h
  rw [← hcfg] at hc hg
  obtain ⟨rx, r, ds, hrun, hloss, hstream⟩ := hmet.takes_byte hc (by rw [hst]; rfl) hft hg
  rw [State.byteArm_readLength _ _ (by exact hst)] at hrun
  rcases State.readLengthByte_cases n (u.waited g rx r ds) with ⟨hlong, -⟩ | ⟨-, e⟩
  · have hlong : u.cap.toNat < n.toNat := hlong
    rw [hcap] at hlong
    exact absurd hlong (Nat.not_lt.mpr hn)
  · rw [e] at hrun
    refine ⟨_, hrun, ⟨rfl, hloss, hstream⟩, ⟨hcfg, if_congr ?_ rfl rfl, rfl, rfl, ?_, hbuf, rfl⟩⟩
    · rw [← BitVec.toNat_inj]
      exact eq_comm
    · have hfold : u.csum ^^^ n = xorFold [s.cfg.header, n] := by simp [hcsum]
      exact hfold

/-- A payload byte, in time for the byte wait and for the deadline (R129). -/
theorem State.TookPayload.takes_byte {s u : State} {g ft : Nat} {n b : Byte} {q : List Byte} {met : List (Nat × Byte)}
    (h : s.TookPayload n q ft u) (hc : s.cfg.wf) (hq : q.length < n.toNat) (hmet : u.Meets ((g, b) :: met))
    (hg : g < s.cfg.byteTimeout) (hd : ft + (g + 1) ≤ s.cfg.frameDeadline) :
    ∃ t, u.BusyRun (g + 1) t ∧ t.Meets met ∧ s.TookPayload n (q ++ [b]) (ft + (g + 1)) t := by
  obtain ⟨hcfg, hst, hlen, hidx, hcsum, hbuf, rfl⟩ := h
  rw [if_neg hq.ne] at hst
  have ⟨_, _, hwidth⟩ := hc
  obtain ⟨rx, r, ds, hrun, hloss, hstream⟩ := hmet.takes_byte (hcfg ▸ hc) (by rw [hst]; rfl) (by rw [hcfg]; omega)
    (hcfg ▸ hg)
  have hold : u.idx.toNat = q.length := by
    rw [hidx]
    exact lengthByte_toNat (by have := n.isLt; omega)
  have htimer : satTimer u.cfg.timerW ((u.waited g rx r ds).frameTimer + 1) = u.frameTimer + (g + 1) := by
    rw [State.waited, if_pos (.inl hst), satTimer_add_satTimer, hcfg]
    exact satTimer_of_lt (by omega)
  rw [State.byteArm_readPayload _ _ (by exact hst)] at hrun
  rcases State.readPayloadByte_cases b (u.waited g rx r ds) with ⟨hlate, -⟩ | ⟨-, e⟩
  · have hlate : u.cfg.frameDeadline < u.frameTimer + (g + 1) := htimer ▸ hlate
    rw [hcfg] at hlate
    omega
  · rw [e] at hrun
    refine ⟨_, hrun, ⟨rfl, hloss, hstream⟩, ⟨hcfg, if_congr ?complete rfl rfl, hlen, ?idx, ?csum, ?buf, htimer⟩⟩
    case complete =>
      change u.idx + 1 = u.len ↔ (q ++ [b]).length = n.toNat
      rw [hlen, BitVec8_succ_eq_iff _ _ (hold ▸ hq), hold, List.length_append, List.length_singleton]
    case idx =>
      change u.idx + 1 = BitVec.ofNat 8 (q ++ [b]).length
      rw [BitVec8_succ, hold, List.length_append, List.length_singleton]
    case csum =>
      change u.csum ^^^ b = xorFold (s.cfg.header :: n :: (q ++ [b]))
      rw [hcsum, ← List.cons_append, ← List.cons_append, xorFold_append, xorFold_cons b, xorFold_nil]
      simp
    case buf =>
      change memWrite u.buf u.idx.toNat b = memWriteAll s.buf 0 (q ++ [b])
      rw [hbuf, hold, memWriteAll_concat, Nat.zero_add]

/-- The payload bytes still to come, all in time (R129). -/
theorem State.TookPayload.takes_payload {s u : State} {ft : Nat} {n : Byte} {q : List Byte}
    {ps met : List (Nat × Byte)} (h : s.TookPayload n q ft u) (hc : s.cfg.wf) (hq : q.length + ps.length ≤ n.toNat)
    (hmet : u.Meets (ps ++ met)) (hg : ∀ x ∈ ps, x.1 < s.cfg.byteTimeout)
    (hd : ft + takingTicks ps ≤ s.cfg.frameDeadline) :
    ∃ t, u.BusyRun (takingTicks ps) t ∧ t.Meets met ∧
      s.TookPayload n (q ++ ps.map (·.2)) (ft + takingTicks ps) t := by
  induction ps generalizing q ft u with
  | nil => exact ⟨u, .zero u, hmet, by simpa using h⟩
  | cons x ps ih =>
    rw [takingTicks_cons] at hd ⊢
    rw [List.length_cons] at hq
    obtain ⟨hx, hps⟩ := List.forall_mem_cons.mp hg
    obtain ⟨v, hrun, hv, htook⟩ := h.takes_byte hc (by omega) hmet hx (by omega)
    obtain ⟨t, hrun', ht, htook'⟩ := ih htook (by rw [List.length_append, List.length_singleton]; omega) hv hps
      (by omega)
    refine ⟨t, hrun.trans hrun', ht, ?_⟩
    rwa [List.append_assoc, Nat.add_assoc] at htook'

/-- The checksum byte, in time and right (R131). -/
theorem State.TookPayload.takes_checksum {s u : State} {g ft : Nat} {n c : Byte} {q : List Byte}
    {met : List (Nat × Byte)} (h : s.TookPayload n q ft u) (hc : s.cfg.wf) (hq : q.length = n.toNat)
    (hft : ft < 2 ^ s.cfg.timerW) (hmet : u.Meets ((g, c) :: met)) (hg : g < s.cfg.byteTimeout)
    (hsum : c = xorFold (s.cfg.header :: n :: q)) :
    ∃ t, u.BusyRun (g + 1) t ∧ noLoss t.script ∧ t.rxStream ++ arrivals t.script = met.map (·.2) ∧
      s.TookFrame n q t := by
  obtain ⟨hcfg, hst, hlen, -, hcsum, hbuf, rfl⟩ := h
  rw [if_pos hq] at hst
  obtain ⟨rx, r, ds, hrun, hloss, hstream⟩ := hmet.takes_byte (hcfg ▸ hc) (by rw [hst]; rfl) (hcfg ▸ hft) (hcfg ▸ hg)
  rw [State.byteArm_readChecksum _ _ (by exact hst)] at hrun
  refine ⟨_, hrun, hloss, ?_, ⟨rfl, hlen, hcsum.trans hsum.symm, hbuf⟩⟩
  rw [← hstream, metStream_bytes]
  rfl

/-- The tick of Validate once the right checksum byte is taken (R136). -/
theorem State.TookFrame.validates {s u : State} {n : Byte} {q : List Byte} (h : s.TookFrame n q u)
    (hloss : noLoss u.script) :
    ∃ t, u.BusyRun 1 t ∧ t.st = .done ∧ t.status = .ok ∧ t.resLen = n ∧ t.buf = memWriteAll s.buf 0 q ∧
      t.rxStream ++ arrivals t.script = u.rxStream ++ arrivals u.script := by
  obtain ⟨hst, hlen, hcsum, hbuf⟩ := h
  obtain ⟨hr, -, -⟩ := noLoss_drive hloss
  have hstep := step_validate u hr hst
  rcases State.validateArm_cases u.sampled with ⟨-, e⟩ | ⟨hne, -⟩
  · rw [e] at hstep
    have hbusy : u.busy = true := by rw [State.busy_eq, hst]; rfl
    exact ⟨_, (State.BusyRun.zero _).cons hbusy hstep, rfl, rfl, hlen, hbuf, arrive_bytes hloss⟩
  · exact absurd hcsum hne

/-! ## The whole frame (R139, R140) -/

theorem takingTicks_append (a b : List (Nat × Byte)) : takingTicks (a ++ b) = takingTicks a + takingTicks b := by
  simp [takingTicks]

/-- What a receive meets when the bytes are those of a frame with the payload `p`, and others behind it. -/
theorem met_of_frame_bytes {met : List (Nat × Byte)} {h n c : Byte} {p more : List Byte}
    (hmet : met.map (·.2) = h :: n :: (p ++ [c]) ++ more) :
    ∃ g₀ g₁ ps g₂ rest, met = (g₀, h) :: (g₁, n) :: (ps ++ (g₂, c) :: rest) ∧ ps.map (·.2) = p ∧
      rest.map (·.2) = more := by
  simp only [List.cons_append, List.append_assoc, List.nil_append, List.map_eq_cons_iff, List.map_eq_append_iff] at hmet
  obtain ⟨⟨g₀, _⟩, _, rfl, rfl, ⟨g₁, _⟩, _, rfl, rfl, ps, _, rfl, hp, ⟨g₂, _⟩, rest, rfl, rfl, hmore⟩ := hmet
  exact ⟨g₀, g₁, ps, g₂, rest, rfl, hp, hmore⟩

/-- A frame within the capacity whose bytes come in time is received at the tick after the one that takes its last byte,
and the bytes behind it stay in the Transport (R139, R140). -/
theorem State.receives_frame {s : State} {n c : Byte} {p more : List Byte} {met : List (Nat × Byte)} (hc : s.cfg.wf)
    (hst : s.st = .awaitHeader) (hcsum : s.csum = 0) (hft : s.frameTimer < 2 ^ s.cfg.timerW) (hmet : s.Meets met)
    (hbytes : met.map (·.2) = s.cfg.header :: n :: (p ++ [c]) ++ more) (hp : p.length = n.toNat)
    (hsum : c = xorFold (s.cfg.header :: n :: p)) (hn : n.toNat ≤ s.cap.toNat) (htime : inTime s.cfg n.toNat met) :
    ∃ u, s.BusyRun (takingTicks (met.take (n.toNat + 3)) + 1) u ∧ u.st = .done ∧ u.status = .ok ∧ u.resLen = n ∧
      u.buf = memWriteAll s.buf 0 p ∧ u.rxStream ++ arrivals u.script = more := by
  obtain ⟨g₀, g₁, ps, g₂, rest, rfl, rfl, rfl⟩ := met_of_frame_bytes hbytes
  have hps : ps.length = n.toNat := by rw [← hp, List.length_map]
  obtain ⟨hwaits, hdeadline⟩ := htime
  have hframe : ((g₀, s.cfg.header) :: (g₁, n) :: (ps ++ (g₂, c) :: rest)).take (n.toNat + 3) =
      (g₀, s.cfg.header) :: (g₁, n) :: (ps ++ [(g₂, c)]) := by
    simp [← hps, List.take_append]
  have hpayload : (((g₀, s.cfg.header) :: (g₁, n) :: (ps ++ (g₂, c) :: rest)).drop 2).take n.toNat = ps := by
    simp [← hps]
  rw [hframe] at hwaits ⊢
  rw [hpayload] at hdeadline
  simp only [List.forall_mem_cons, List.forall_mem_append] at hwaits
  obtain ⟨hg₀, hg₁, hgs, hg₂, -⟩ := hwaits
  have ⟨_, _, hwidth⟩ := hc
  obtain ⟨u₁, hrun₁, hmet₁, htook₁⟩ := State.takes_header hc hst hcsum hft hmet hg₀
  obtain ⟨u₂, hrun₂, hmet₂, htook₂⟩ := htook₁.takes_length hc hmet₁ hg₁ hn
  obtain ⟨u₃, hrun₃, hmet₃, htook₃⟩ := htook₂.takes_payload hc (by simp [hps]) hmet₂ hgs (by omega)
  obtain ⟨u₄, hrun₄, hloss₄, hbytes₄, htook₄⟩ := htook₃.takes_checksum hc hp (by omega) hmet₃ hg₂ hsum
  obtain ⟨u, hrun, hdone, hok, hlen, hbuf, hleft⟩ := htook₄.validates hloss₄
  refine ⟨u, ?_, hdone, hok, hlen, hbuf, hleft.trans hbytes₄⟩
  have hticks : takingTicks ((g₀, s.cfg.header) :: (g₁, n) :: (ps ++ [(g₂, c)])) + 1 =
      g₀ + 1 + (g₁ + 1) + takingTicks ps + (g₂ + 1) + 1 := by
    simp only [takingTicks_cons, takingTicks_append, takingTicks_nil]
    omega
  rw [hticks]
  exact (((hrun₁.trans hrun₂).trans hrun₃).trans hrun₄).trans hrun

end Sys2Proof.Machine
end

section
/-! The obligation about a frame that is sent and received. -/

namespace Sys2Proof.Machine

/-- Settles O46: the bytes sent are the frame of the sender's buffer, and a frame in time is received. -/
theorem roundTrip : Obligations.RoundTrip := by
  intro n m s s1 t r r1 k more hready hn hn' hsend hr hbusy hrun hdone hc hheader hready' hm hrecv hloss hbytes htime
    last
  have hlen := sendLength_toNat hn'
  have hsent := sent_of_done hready hn hn' hsend hr ⟨hrun, hbusy⟩ hdone
  obtain ⟨hcfg, hbuf, hst, hcsum, hcap, hbyte, hframe⟩ := exec_recv_awaits hready' (hn.trans hm) hrecv
  have hmet : r1.Meets (metStream 0 r1.rxStream r1.script) := ⟨hbyte, hloss, rfl⟩
  rw [hsent, List.drop_left, State.sendFrame_eq, ← hheader, ← hcfg] at hbytes
  obtain ⟨u, ⟨hrun, hbusy⟩, hdone, hok, hres, hwritten, hleft⟩ :=
    State.receives_frame (hcfg ▸ hc) hst hcsum (hframe ▸ Nat.two_pow_pos _) hmet (hmet.bytes.trans hbytes) (by simp) rfl
      (by rw [hcap, recvCapacity_toNat, hlen]; omega) (by rwa [hcfg, hlen])
  rw [hlen] at hrun hbusy hwritten
  refine ⟨hbusy, u, hrun, hdone, hok, hres ▸ hlen, hleft, fun x hx => ?_, fun x hx => ?_⟩
  · rw [hwritten, memRead_payload _ _ _ (by simpa using hn'), bufBytes_length, if_pos hx, List.getD_eq_getElem?_getD,
      bufBytes_get _ _ _ hx]
    rfl
  · rw [hwritten, memRead_payload _ _ _ (by simpa using hn'), bufBytes_length, if_neg (Nat.not_lt.mpr hx), hbuf]

end Sys2Proof.Machine
end

section
/-! The wait of a receive for a byte, up to the tick at which it runs out (R122, R133). -/

namespace Sys2Proof.Machine

/-- The last empty tick of a wait: Timeout, with only the frame timer moved beside the result (R122, R123). -/
theorem step_timesOut {s : State} (hread : s.st.reading = true) (hr : s.drive.rst = false)
    (hrx : s.arrive.rxStream = []) (hover : s.cfg.byteTimeout ≤ s.byteTimer + 1) :
    ∃ ft, step s = .next (({ s.sampled with frameTimer := ft } : State).fail .timeout) := by
  rw [step_waits s hr hread hrx]
  rcases State.waitArm_cases s.sampled hread with ⟨-, e⟩ | ⟨hgoes, -⟩
  · exact ⟨_, congrArg Host.Outcome.next e⟩
  · exact absurd hover (Nat.not_le.mpr hgoes)

/-- A wait with no byte, from any of its ticks on: it stands and counts until it runs out (R122, R133). -/
theorem run_wait {k : Nat} {s t : State} (hc : s.cfg.wf) (hread : s.st.reading = true)
    (hbyte : s.byteTimer < s.cfg.byteTimeout) (hrx : s.rxStream = [])
    (hquiet : ∀ d ∈ s.script.take k, d.rst = false ∧ d.rxArrive = []) (hrun : run k s = .next t) :
    (s.byteTimer + k < s.cfg.byteTimeout → t.st = s.st ∧ t.byteTimer = s.byteTimer + k ∧ t.status = s.status ∧
      t.csum = s.csum ∧ t.buf = s.buf) ∧
    (s.byteTimer + k = s.cfg.byteTimeout → t.st = .failed ∧ t.status = .timeout ∧ t.resLen = 0 ∧
      t.byteTimer + 1 = s.cfg.byteTimeout) := by
  induction k generalizing s with
  | zero =>
    obtain rfl : s = t := Host.Outcome.next.inj hrun
    exact ⟨fun _ => ⟨rfl, rfl, rfl, rfl, rfl⟩, fun hend => absurd hend hbyte.ne⟩
  | succ k ih =>
    obtain ⟨⟨hr, harrive⟩, hlater⟩ := State.drive_of_take ⟨rfl, rfl⟩ hquiet
    have hempty : s.arrive.rxStream = [] := by rw [State.arrive_rxStream, harrive, hrx, ite_self]; rfl
    by_cases hgoes : s.byteTimer + 1 < s.cfg.byteTimeout
    · rw [run_succ_of_step (step_waited hc hread hr hempty hgoes)] at hrun
      rw [← Nat.add_assoc, Nat.add_right_comm]
      exact ih (s := s.waited 1 [] _ _) hc hread hgoes rfl hlater hrun
    · refine ⟨fun hgoes' => by omega, fun hend => ?_⟩
      obtain rfl : k = 0 := by omega
      obtain ⟨ft, hstep⟩ := step_timesOut hread hr hempty (Nat.le_of_not_lt hgoes)
      obtain rfl : _ = t := Host.Outcome.next.inj ((run_succ_of_step hstep 0).symm.trans hrun)
      exact ⟨rfl, rfl, rfl, hend⟩

end Sys2Proof.Machine
end

section
/-! The receiver's obligations about a single tick, and about a wait (R121 to R136). -/

namespace Sys2Proof.Machine

/-! ## Ticks that take a byte (R124 to R131) -/

/-- Settles O27: the two outcomes of the header byte. -/
theorem awaitHeaderTakesAByte : Obligations.AwaitHeaderTakesAByte := by
  intro s b rest hr hst hrx
  rw [step_takes_byte s b rest hr (by rw [hst]; rfl) hrx, State.byteArm_awaitHeader _ _ (by exact hst)]
  refine congrArg Host.Outcome.next ?_
  rcases State.awaitHeaderByte_cases b ({ s.sampled with rxStream := rest } : State) with ⟨hb, e⟩ | ⟨hb, e⟩
  · exact e.trans (if_pos hb).symm
  · exact e.trans (if_neg hb).symm

/-- Settles O28: the two outcomes of the length byte; the byte 0x00 is the number 0. -/
theorem readLengthTakesAByte : Obligations.ReadLengthTakesAByte := by
  intro s b rest hr hst hrx
  have hzero : b.toNat = 0 ↔ b = 0 := BitVec.toNat_inj (y := 0)
  rw [step_takes_byte s b rest hr (by rw [hst]; rfl) hrx, State.byteArm_readLength _ _ (by exact hst)]
  refine congrArg Host.Outcome.next ?_
  simp only [hzero]
  rcases State.readLengthByte_cases b ({ s.sampled with rxStream := rest } : State) with ⟨hlong, e⟩ | ⟨hfits, e⟩
  · exact e.trans (if_pos hlong).symm
  · exact e.trans (if_neg (Nat.not_lt.mpr hfits)).symm

/-- Settles O29: the two outcomes of a payload byte, both with the byte stored at an entry below the length. -/
theorem readPayloadTakesAByte : Obligations.ReadPayloadTakesAByte := by
  intro s b rest hr hst hlt hrx ft taken
  have hidx : s.idx.toNat ≤ 254 := by have := s.len.isLt; omega
  have hnext : BitVec.ofNat 8 (s.idx.toNat + 1) = s.idx + 1 := (BitVec8_succ s.idx).symm
  have hend : s.idx.toNat + 1 = s.len.toNat ↔ s.idx + 1 = s.len := (BitVec8_succ_eq_iff _ _ hlt).symm
  refine ⟨?step, memRead_memWrite_self _ _ _ hidx, fun x hx => memRead_memWrite_other _ _ _ _ hx⟩
  rw [step_takes_byte s b rest hr (by rw [hst]; rfl) hrx, State.byteArm_readPayload _ _ (by exact hst)]
  refine congrArg Host.Outcome.next ?_
  simp only [taken, hnext, hend]
  rcases State.readPayloadByte_cases b ({ s.sampled with rxStream := rest } : State) with ⟨hlate, e⟩ | ⟨hintime, e⟩
  · exact e.trans (if_pos hlate).symm
  · exact e.trans (if_neg (Nat.not_lt.mpr hintime)).symm

/-- Settles O30: the checksum byte has one outcome. -/
theorem readChecksumTakesAByte : Obligations.ReadChecksumTakesAByte := by
  intro s b rest hr hst hrx
  rw [step_takes_byte s b rest hr (by rw [hst]; rfl) hrx, State.byteArm_readChecksum _ _ (by exact hst)]
  rfl

/-! ## Validate (R135, R136) -/

/-- Settles O31: the two outcomes of the comparison, and R38 (g) and (i) for what is compared. -/
theorem validateGivesTheVerdict : Obligations.ValidateGivesTheVerdict := by
  intro s hr hst
  refine ⟨?step, fun hagree => ?fold⟩
  case step =>
    refine (step_validate s hr hst).trans (congrArg Host.Outcome.next ?_)
    rcases State.validateArm_cases s.sampled with ⟨heq, e⟩ | ⟨hne, e⟩
    · exact e.trans (if_pos heq).symm
    · exact e.trans (if_neg hne).symm
  case fold =>
    obtain ⟨-, -, rxFold⟩ := hagree.i
    have hidx : s.idx = s.len := hagree.g (.inr (.inl hst))
    rw [rxFold (.inr (.inr hst)), State.foldSoFar, hidx, checksum_eq_xorFold (bufBytes_length _ _)]

/-! ## Waits (R122, R123, R133) -/

/-- Settles O32: the two outcomes of an empty tick; a wait that goes on counts without a wrap. -/
theorem waitingForAByte : Obligations.WaitingForAByte := by
  intro s hr hread hrx hc _ ft
  refine (step_waits s hr hread hrx).trans (congrArg Host.Outcome.next ?_)
  rcases State.waitArm_cases s.sampled hread with ⟨hover, e⟩ | ⟨hgoes, e⟩
  · exact e.trans (if_pos hover).symm
  · have hbump : bumpTimer s.cfg.timerW s.byteTimer = s.byteTimer + 1 := bumpTimer_of_waiting hc hgoes
    refine Eq.trans ?_ (if_neg (Nat.not_le.mpr hgoes)).symm
    rw [e, ← hbump]
    rfl

/-- Settles O33: `run_wait` from the first tick of the wait. -/
theorem waitWindow : Obligations.WaitWindow := by
  intro k s t hc hread hfresh hrx hquiet hrun
  have ⟨hpositive, _⟩ := hc
  have hwait := run_wait hc hread (hfresh ▸ hpositive) hrx hquiet hrun
  rw [hfresh, Nat.zero_add] at hwait
  obtain ⟨hstands, htimesOut⟩ := hwait
  exact ⟨hstands, fun hk => hk ▸ htimesOut hk⟩

end Sys2Proof.Machine
end

section
/-! The outcome of a receive, whatever comes when: how it ends after each of its bytes, and the verdict of R139. -/

namespace Sys2Proof.Machine

/-! ## The verdict, case by case (R139) -/

/-- The next byte of the met stream, if there is one, is waited for as long as `limit` ticks or longer. -/
abbrev LateBy (limit : Nat) (met : List (Nat × Byte)) : Prop := ∀ x ∈ met.head?, limit ≤ x.1

theorem late_or_inTime (limit : Nat) (met : List (Nat × Byte)) :
    LateBy limit met ∨ ∃ g b rest, met = (g, b) :: rest ∧ g < limit := by
  match met with
  | [] => exact .inl nofun
  | (g, b) :: rest =>
    by_cases hg : g < limit
    · exact .inr ⟨g, b, rest, rfl, hg⟩
    · exact .inl fun x hx => Option.some.inj hx ▸ Nat.le_of_not_lt hg

section
variable {c : Config} {cap len fold b : Byte} {start now stored remaining g : Nat} {met : List (Nat × Byte)}

/-- The next byte is late (R139, steps 3 to 5). -/
theorem payloadVerdict_of_late (h : LateBy c.byteTimeout met) :
    payloadVerdict c len start remaining now stored fold met =
      ⟨.timeout, 0, now + c.byteTimeout, stored + 2, stored⟩ := by
  match met, remaining with
  | [], _ => rw [payloadVerdict]
  | (g, b) :: _, 0 => exact if_pos (h (g, b) rfl)
  | (g, b) :: _, _ + 1 => exact if_pos (h (g, b) rfl)

/-- The checksum byte comes in time (R139, step 5). -/
theorem payloadVerdict_checksum (hg : g < c.byteTimeout) :
    payloadVerdict c len start 0 now stored fold ((g, b) :: met) =
      ⟨if b = fold then .ok else .checksumMismatch, if b = fold then len else 0, now + g + 2, stored + 3, stored⟩ := by
  rw [payloadVerdict, if_neg (Nat.not_le.mpr hg)]
  by_cases hb : b = fold <;> simp only [hb, if_true, if_false]

/-- A payload byte comes in time for the byte wait and past the deadline (R139, step 4). -/
theorem payloadVerdict_pastDeadline (hg : g < c.byteTimeout) (hd : c.frameDeadline < now + g + 1 - start) :
    payloadVerdict c len start (remaining + 1) now stored fold ((g, b) :: met) =
      ⟨.timeout, 0, now + g + 1, stored + 3, stored + 1⟩ := by
  rw [payloadVerdict, if_neg (Nat.not_le.mpr hg), if_pos hd]

/-- A payload byte comes in time (R139, step 4). -/
theorem payloadVerdict_payload (hg : g < c.byteTimeout) (hd : now + g + 1 - start ≤ c.frameDeadline) :
    payloadVerdict c len start (remaining + 1) now stored fold ((g, b) :: met) =
      payloadVerdict c len start remaining (now + g + 1) (stored + 1) (fold ^^^ b) met := by
  rw [payloadVerdict, if_neg (Nat.not_le.mpr hg), if_neg (Nat.not_lt.mpr hd)]

/-- The header is late (R139, step 1). -/
theorem receiveVerdict_of_late (h : LateBy c.byteTimeout met) :
    receiveVerdict c cap met = ⟨.timeout, 0, c.byteTimeout, 0, 0⟩ := by
  match met with
  | [] => rfl
  | (g, b) :: _ => exact if_pos (h (g, b) rfl)

/-- Another byte comes for the header (R139, step 1). -/
theorem receiveVerdict_wrongHeader (hg : g < c.byteTimeout) (hb : b ≠ c.header) :
    receiveVerdict c cap ((g, b) :: met) = ⟨.headerMismatch, 0, g + 1, 1, 0⟩ :=
  (if_neg (Nat.not_le.mpr hg)).trans (if_pos hb)

/-- The length byte is late (R139, step 2). -/
theorem receiveVerdict_of_late_length (hg : g < c.byteTimeout) (h : LateBy c.byteTimeout met) :
    receiveVerdict c cap ((g, c.header) :: met) = ⟨.timeout, 0, g + 1 + c.byteTimeout, 1, 0⟩ := by
  refine ((if_neg (Nat.not_le.mpr hg)).trans (if_neg (not_not_intro rfl))).trans ?_
  match met with
  | [] => rfl
  | (g', n) :: _ => exact if_pos (h (g', n) rfl)

/-- The length byte is above the capacity (R139, step 2). -/
theorem receiveVerdict_tooLong {g' : Nat} {n : Byte} (hg : g < c.byteTimeout) (hg' : g' < c.byteTimeout)
    (hn : cap.toNat < n.toNat) :
    receiveVerdict c cap ((g, c.header) :: (g', n) :: met) = ⟨.lengthInvalid, 0, g + g' + 2, 2, 0⟩ := by
  refine ((if_neg (Nat.not_le.mpr hg)).trans (if_neg (not_not_intro rfl))).trans ?_
  exact (if_neg (Nat.not_le.mpr hg')).trans (if_pos hn)

/-- The length byte is within the capacity (R139, step 2). -/
theorem receiveVerdict_length {g' : Nat} {n : Byte} (hg : g < c.byteTimeout) (hg' : g' < c.byteTimeout)
    (hn : n.toNat ≤ cap.toNat) :
    receiveVerdict c cap ((g, c.header) :: (g', n) :: met) =
      payloadVerdict c n (g + g' + 2) n.toNat (g + g' + 2) 0 (c.header ^^^ n) met := by
  refine ((if_neg (Nat.not_le.mpr hg)).trans (if_neg (not_not_intro rfl))).trans ?_
  exact (if_neg (Nat.not_le.mpr hg')).trans (if_neg (Nat.not_lt.mpr hn))

end

/-! ## The end of a receive -/

/-- `t` is the end of a receive, with this result, this buffer, and these bytes unread or still to come. -/
structure State.EndsWith (last : Status) (r : Byte) (m : Memory) (left : List Byte) (t : State) : Prop where
  st : t.st = if last = .ok then .done else .failed
  status : t.status = last
  resLen : t.resLen = r
  buf : t.buf = m
  left : t.rxStream ++ arrivals t.script = left

/-- `t` reports the outcome `v` of the receive that waits for a header in `s` and is offered `bytes` (R44, R50, R139). -/
structure State.Reports (v : Verdict) (bytes : List Byte) (s t : State) : Prop where
  st : t.st = if v.status = .ok then .done else .failed
  status : t.status = v.status
  resLen : t.resLen = v.resLen
  left : t.rxStream ++ arrivals t.script = bytes.drop v.consumed
  entries : ∀ x, memRead t.buf x = if x < v.stored then bytes.getD (x + 2) 0 else memRead s.buf x

/-- An end before the first payload byte leaves the buffer as it was (R44). -/
theorem State.EndsWith.reports_unstored {v : Verdict} {s t : State} {bytes left : List Byte}
    (h : t.EndsWith v.status v.resLen s.buf left) (hstored : v.stored = 0) (hleft : bytes.drop v.consumed = left) :
    s.Reports v bytes t := by
  obtain ⟨hst, hstatus, hres, hbuf, hrest⟩ := h
  refine ⟨hst, hstatus, hres, hrest.trans hleft.symm, fun x => ?_⟩
  rw [hbuf, hstored, if_neg (Nat.not_lt_zero x)]

/-- An end after the payload bytes `q` leaves them in the buffer from entry 0 on (R44). -/
theorem State.EndsWith.reports {v : Verdict} {s t : State} {h n : Byte} {q behind left : List Byte}
    (hend : t.EndsWith v.status v.resLen (memWriteAll s.buf 0 q) left) (hstored : v.stored = q.length)
    (hq : q.length ≤ 255) (hleft : (h :: n :: (q ++ behind)).drop v.consumed = left) :
    s.Reports v (h :: n :: (q ++ behind)) t := by
  obtain ⟨hst, hstatus, hres, hbuf, hrest⟩ := hend
  refine ⟨hst, hstatus, hres, hrest.trans hleft.symm, fun x => ?_⟩
  rw [hbuf, memRead_payload q s.buf x hq, hstored, List.getD_cons_succ, List.getD_cons_succ]
  exact if_ctx_congr Iff.rfl (fun hx => (List.getD_append _ _ _ _ hx).symm) (fun _ => rfl)

/-! ## The ways a receive ends -/

/-- A wait for a byte that is late ends in Timeout at its last tick (R122). -/
theorem State.busyRun_timesOut {s : State} {met : List (Nat × Byte)} (hc : s.cfg.wf) (hread : s.st.reading = true)
    (hbyte : s.byteTimer < s.cfg.byteTimeout) (hloss : noLoss s.script)
    (hmet : metStream s.byteTimer s.rxStream s.script = met) (hlate : LateBy s.cfg.byteTimeout met) :
    ∃ t, s.BusyRun (s.cfg.byteTimeout - s.byteTimer) t ∧
      t.EndsWith .timeout 0 s.buf (s.rxStream ++ arrivals s.script) := by
  induction hw : s.cfg.byteTimeout - s.byteTimer generalizing s with
  | zero => omega
  | succ w ih =>
    obtain ⟨hr, -, hlater⟩ := noLoss_drive hloss
    cases hrx : s.arrive.rxStream with
    | cons b rest =>
      rw [metStream_of_offered hloss hrx] at hmet
      exact absurd (hlate (s.byteTimer, b) (hmet ▸ rfl)) (Nat.not_le.mpr hbyte)
    | nil =>
      have hbytes := arrive_bytes hloss
      rw [hrx] at hbytes
      by_cases hgoes : s.byteTimer + 1 < s.cfg.byteTimeout
      · have hstep := step_waited hc hread hr hrx hgoes
        rw [metStream_of_empty hloss hrx] at hmet
        obtain ⟨t, hrun, hend⟩ := ih (s := s.waited 1 [] (s.arrive.hostSeen s.drive) s.script.tail) hc hread hgoes
          hlater hmet hlate (by change s.cfg.byteTimeout - (s.byteTimer + 1) = w; omega)
        exact ⟨t, hrun.cons (s.busy_of_reading hread) hstep, hbytes ▸ hend⟩
      · obtain rfl : w = 0 := by omega
        obtain ⟨ft, hstep⟩ := step_timesOut hread hr hrx (Nat.le_of_not_lt hgoes)
        exact ⟨_, (State.BusyRun.zero _).cons (s.busy_of_reading hread) hstep, rfl, rfl, rfl, rfl, arrive_bytes hloss⟩

/-- The same from the first tick of the wait. -/
theorem State.Meets.times_out {u : State} {met : List (Nat × Byte)} (h : u.Meets met) (hc : u.cfg.wf)
    (hread : u.st.reading = true) (hlate : LateBy u.cfg.byteTimeout met) :
    ∃ t, u.BusyRun u.cfg.byteTimeout t ∧ t.EndsWith .timeout 0 u.buf (met.map (·.2)) := by
  have hbytes := h.bytes
  obtain ⟨hfresh, hloss, hstream⟩ := h
  have ⟨hpositive, _⟩ := hc
  have hrun := State.busyRun_timesOut hc hread (hfresh ▸ hpositive) hloss (hfresh ▸ hstream) hlate
  rwa [hfresh, Nat.sub_zero, ← hbytes] at hrun

/-- Another byte than the header, in time (R124). -/
theorem State.Meets.ends_by_wrongHeader {s : State} {g : Nat} {b : Byte} {met : List (Nat × Byte)}
    (h : s.Meets ((g, b) :: met)) (hc : s.cfg.wf) (hst : s.st = .awaitHeader) (hft : s.frameTimer < 2 ^ s.cfg.timerW)
    (hg : g < s.cfg.byteTimeout) (hb : b ≠ s.cfg.header) :
    ∃ t, s.BusyRun (g + 1) t ∧ t.EndsWith .headerMismatch 0 s.buf (met.map (·.2)) := by
  obtain ⟨rx, r, ds, hrun, -, rfl⟩ := h.takes_byte hc (by rw [hst]; rfl) hft hg
  rw [State.byteArm_awaitHeader _ _ (by exact hst)] at hrun
  rcases State.awaitHeaderByte_cases b (s.waited g rx r ds) with ⟨hheader, -⟩ | ⟨-, e⟩
  · exact absurd hheader hb
  · exact ⟨_, hrun, by rw [e]; exact ⟨rfl, rfl, rfl, rfl, (metStream_bytes ds 0 rx).symm⟩⟩

/-- A length byte above the capacity, in time (R126). -/
theorem State.TookHeader.ends_by_tooLong {s u : State} {g : Nat} {n : Byte} {met : List (Nat × Byte)}
    (h : s.TookHeader u) (hc : s.cfg.wf) (hmet : u.Meets ((g, n) :: met)) (hg : g < s.cfg.byteTimeout)
    (hn : s.cap.toNat < n.toNat) : ∃ t, u.BusyRun (g + 1) t ∧ t.EndsWith .lengthInvalid 0 s.buf (met.map (·.2)) := by
  obtain ⟨hcfg, hst, hcap, -, hbuf, hft⟩ := h
  rw [← hcfg] at hc hg
  obtain ⟨rx, r, ds, hrun, -, rfl⟩ := hmet.takes_byte hc (by rw [hst]; rfl) hft hg
  rw [State.byteArm_readLength _ _ (by exact hst)] at hrun
  rcases State.readLengthByte_cases n (u.waited g rx r ds) with ⟨-, e⟩ | ⟨hfits, -⟩
  · exact ⟨_, hrun, by rw [e]; exact ⟨rfl, rfl, rfl, hbuf, (metStream_bytes ds 0 rx).symm⟩⟩
  · have hfits : n.toNat ≤ u.cap.toNat := hfits
    rw [hcap] at hfits
    exact absurd hn (Nat.not_lt.mpr hfits)

/-- A payload byte in time for the byte wait but past the deadline is stored before the receive fails (R129, R134). -/
theorem State.TookPayload.ends_by_deadline {s u : State} {g ft : Nat} {n b : Byte} {q : List Byte}
    {met : List (Nat × Byte)} (h : s.TookPayload n q ft u) (hc : s.cfg.wf) (hq : q.length < n.toNat)
    (hft : ft ≤ s.cfg.frameDeadline) (hmet : u.Meets ((g, b) :: met)) (hg : g < s.cfg.byteTimeout)
    (hd : s.cfg.frameDeadline < ft + (g + 1)) :
    ∃ t, u.BusyRun (g + 1) t ∧ t.EndsWith .timeout 0 (memWriteAll s.buf 0 (q ++ [b])) (met.map (·.2)) := by
  obtain ⟨hcfg, hst, -, hidx, -, hbuf, rfl⟩ := h
  rw [if_neg hq.ne] at hst
  have ⟨_, _, hwidth⟩ := hc
  obtain ⟨rx, r, ds, hrun, -, rfl⟩ := hmet.takes_byte (hcfg ▸ hc) (by rw [hst]; rfl) (by rw [hcfg]; omega) (hcfg ▸ hg)
  have hold : u.idx.toNat = q.length := by
    rw [hidx]
    exact lengthByte_toNat (by have := n.isLt; omega)
  have hpast : s.cfg.frameDeadline < satTimer u.cfg.timerW ((u.waited g rx r ds).frameTimer + 1) := by
    rw [State.waited, if_pos (.inl hst), satTimer_add_satTimer, hcfg, satTimer]
    omega
  rw [State.byteArm_readPayload _ _ (by exact hst)] at hrun
  rcases State.readPayloadByte_cases b (u.waited g rx r ds) with ⟨-, e⟩ | ⟨hintime, -⟩
  · refine ⟨_, hrun, ?_⟩
    rw [e]
    refine ⟨rfl, rfl, rfl, ?_, (metStream_bytes ds 0 rx).symm⟩
    change memWrite u.buf u.idx.toNat b = memWriteAll s.buf 0 (q ++ [b])
    rw [hbuf, hold, memWriteAll_concat, Nat.zero_add]
  · exact absurd hpast (Nat.not_lt.mpr (hcfg ▸ hintime))

/-- The tick of Validate (R136). -/
theorem State.ends_by_validate {u : State} (hst : u.st = .validate) (hloss : noLoss u.script) :
    ∃ t, u.BusyRun 1 t ∧ t.EndsWith (if u.rxChk = u.csum then .ok else .checksumMismatch)
      (if u.rxChk = u.csum then u.len else 0) u.buf (u.rxStream ++ arrivals u.script) := by
  obtain ⟨hr, -, -⟩ := noLoss_drive hloss
  have hbusy : u.busy = true := by rw [State.busy_eq, hst]; rfl
  refine ⟨_, (State.BusyRun.zero _).cons hbusy (step_validate u hr hst), ?_⟩
  rcases State.validateArm_cases u.sampled with ⟨heq, e⟩ | ⟨hne, e⟩
  · have heq : u.rxChk = u.csum := heq.symm
    rw [e, if_pos heq, if_pos heq]
    exact ⟨rfl, rfl, rfl, rfl, arrive_bytes hloss⟩
  · have hne : u.rxChk ≠ u.csum := fun heq => hne heq.symm
    rw [e, if_neg hne, if_neg hne]
    exact ⟨rfl, rfl, rfl, rfl, arrive_bytes hloss⟩

/-- The checksum byte, in time, and the tick of Validate after it (R131, R136). -/
theorem State.TookPayload.ends_by_checksum {s u : State} {g ft : Nat} {n c : Byte} {q : List Byte}
    {met : List (Nat × Byte)} (h : s.TookPayload n q ft u) (hc : s.cfg.wf) (hq : q.length = n.toNat)
    (hft : ft ≤ s.cfg.frameDeadline) (hmet : u.Meets ((g, c) :: met)) (hg : g < s.cfg.byteTimeout) :
    let sum := xorFold (s.cfg.header :: n :: q)
    ∃ t, u.BusyRun (g + 1 + 1) t ∧ t.EndsWith (if c = sum then .ok else .checksumMismatch) (if c = sum then n else 0)
      (memWriteAll s.buf 0 q) (met.map (·.2)) := by
  intro sum
  obtain ⟨hcfg, hst, rfl, -, hcsum, hbuf, rfl⟩ := h
  rw [if_pos hq] at hst
  have ⟨_, _, hwidth⟩ := hc
  obtain ⟨rx, r, ds, hrun, hloss, rfl⟩ :=
    hmet.takes_byte (hcfg ▸ hc) (by rw [hst]; rfl) (by rw [hcfg]; omega) (hcfg ▸ hg)
  rw [State.byteArm_readChecksum _ _ (by exact hst)] at hrun
  obtain ⟨t, hrun', hend⟩ := State.ends_by_validate (u := (u.waited g rx r ds).readChecksumByte c) rfl hloss
  refine ⟨t, hrun.trans hrun', ?_⟩
  have hcsum : u.csum = sum := hcsum
  rw [metStream_bytes, ← hbuf, ← hcsum]
  exact hend

/-! ## The verdict is reached (R139) -/

/-- From the length byte on, a receive whose next byte is late reaches its verdict at the verdict's tick (R122, R139). -/
theorem State.TookPayload.reaches_timeout {s u : State} {n : Byte} {q : List Byte} {met : List (Nat × Byte)} {ft : Nat}
    (h : s.TookPayload n q ft u) (hc : s.cfg.wf) (hq : q.length ≤ n.toNat) (hmet : u.Meets met)
    (hlate : LateBy s.cfg.byteTimeout met) {start now : Nat} (hrun : s.BusyRun now u) (remaining : Nat) (fold : Byte) :
    let v := payloadVerdict s.cfg n start remaining now q.length fold met
    ∃ t, s.BusyRun v.tick t ∧ s.Reports v (s.cfg.header :: n :: (q ++ met.map (·.2))) t := by
  obtain ⟨hcfg, hst, -, -, -, hbuf, -⟩ := h
  have hread : u.st.reading = true := by rw [hst]; split <;> rfl
  rw [← hcfg] at hc hlate
  obtain ⟨t, hrun', hend⟩ := hmet.times_out hc hread hlate
  rw [hcfg] at hrun' hlate
  rw [payloadVerdict_of_late hlate]
  exact ⟨t, hrun.trans hrun', (hbuf ▸ hend).reports rfl (by have := n.isLt; omega) (by simp)⟩

/-- From the length byte on, a receive reaches its verdict at the verdict's tick (R139, steps 3 to 5). -/
theorem State.TookPayload.reaches_verdict {s u : State} {n : Byte} {q : List Byte} {met : List (Nat × Byte)}
    {start now remaining : Nat} (h : s.TookPayload n q (now - start) u) (hc : s.cfg.wf)
    (hq : q.length + remaining = n.toNat) (hstart : start ≤ now) (hft : now - start ≤ s.cfg.frameDeadline)
    (hmet : u.Meets met) (hrun : s.BusyRun now u) :
    let v := payloadVerdict s.cfg n start remaining now q.length (xorFold (s.cfg.header :: n :: q)) met
    ∃ t, s.BusyRun v.tick t ∧ s.Reports v (s.cfg.header :: n :: (q ++ met.map (·.2))) t := by
  have hn := n.isLt
  induction remaining generalizing q u met now with
  | zero =>
    rcases late_or_inTime s.cfg.byteTimeout met with hlate | ⟨g, b, rest, rfl, hg⟩
    · exact h.reaches_timeout hc hq.le hmet hlate hrun _ _
    · obtain ⟨t, hrun', hend⟩ := h.ends_by_checksum hc hq hft hmet hg
      rw [payloadVerdict_checksum hg]
      exact ⟨t, hrun.trans hrun', hend.reports rfl (by omega) (by simp)⟩
  | succ remaining ih =>
    rcases late_or_inTime s.cfg.byteTimeout met with hlate | ⟨g, b, rest, rfl, hg⟩
    · exact h.reaches_timeout hc (by omega) hmet hlate hrun _ _
    · have hsplit : q ++ ((g, b) :: rest).map (·.2) = q ++ [b] ++ rest.map (·.2) := by simp
      have hlength : (q ++ [b]).length = q.length + 1 := List.length_append
      rw [hsplit]
      by_cases hd : s.cfg.frameDeadline < now + g + 1 - start
      · obtain ⟨t, hrun', hend⟩ := h.ends_by_deadline hc (by omega) hft hmet hg (by omega)
        rw [payloadVerdict_pastDeadline hg hd]
        exact ⟨t, hrun.trans hrun', hend.reports hlength.symm (by omega) (by simp)⟩
      · obtain ⟨t, hrun', hmet', htook⟩ := h.takes_byte hc (by omega) hmet hg (by omega)
        have hfold : xorFold (s.cfg.header :: n :: q) ^^^ b = xorFold (s.cfg.header :: n :: (q ++ [b])) := by
          simp [BitVec.xor_assoc]
        have hticks : now - start + (g + 1) = now + g + 1 - start := by omega
        rw [payloadVerdict_payload hg (Nat.le_of_not_lt hd), hfold, ← hlength]
        exact ih (hticks ▸ htook) (by omega) (by omega) (by omega) hmet' (hrun.trans hrun')

/-- From the header on, a receive reaches its verdict at the verdict's tick (R139, steps 2 to 5). -/
theorem State.TookHeader.reaches_verdict {s u : State} {g : Nat} {met : List (Nat × Byte)} (h : s.TookHeader u)
    (hc : s.cfg.wf) (hg : g < s.cfg.byteTimeout) (hmet : u.Meets met) (hrun : s.BusyRun (g + 1) u) :
    let v := receiveVerdict s.cfg s.cap ((g, s.cfg.header) :: met)
    ∃ t, s.BusyRun v.tick t ∧ s.Reports v (s.cfg.header :: met.map (·.2)) t := by
  rcases late_or_inTime s.cfg.byteTimeout met with hlate | ⟨g', n, rest, rfl, hg'⟩
  · rw [receiveVerdict_of_late_length hg hlate]
    obtain ⟨hcfg, hst, -, -, hbuf, -⟩ := h
    rw [← hcfg] at hc hlate
    obtain ⟨t, hrun', hend⟩ := hmet.times_out hc (by rw [hst]; rfl) hlate
    rw [hcfg] at hrun'
    exact ⟨t, hrun.trans hrun', (hbuf ▸ hend).reports_unstored rfl rfl⟩
  · have hticks : g + 1 + (g' + 1) = g + g' + 2 := by omega
    by_cases hn : s.cap.toNat < n.toNat
    · obtain ⟨t, hrun', hend⟩ := h.ends_by_tooLong hc hmet hg' hn
      rw [receiveVerdict_tooLong hg hg' hn]
      exact ⟨t, hticks ▸ hrun.trans hrun', hend.reports_unstored rfl rfl⟩
    · obtain ⟨t, hrun', hmet', htook⟩ := h.takes_length hc hmet hg' (Nat.le_of_not_lt hn)
      have hfold : s.cfg.header ^^^ n = xorFold [s.cfg.header, n] := by simp
      rw [receiveVerdict_length hg hg' (Nat.le_of_not_lt hn), hfold]
      rw [← Nat.sub_self (g + g' + 2)] at htook
      exact htook.reaches_verdict hc (Nat.zero_add _) le_rfl (by omega) hmet' (hticks ▸ hrun.trans hrun')

/-- A receive that waits for its header reaches its verdict at the verdict's tick, and is busy before it (R139). -/
theorem State.receive_reaches_verdict {s : State} {met : List (Nat × Byte)} (hc : s.cfg.wf) (hst : s.st = .awaitHeader)
    (hcsum : s.csum = 0) (hft : s.frameTimer < 2 ^ s.cfg.timerW) (hmet : s.Meets met) :
    let v := receiveVerdict s.cfg s.cap met
    ∃ t, s.BusyRun v.tick t ∧ s.Reports v (met.map (·.2)) t := by
  rcases late_or_inTime s.cfg.byteTimeout met with hlate | ⟨g, b, rest, rfl, hg⟩
  · obtain ⟨t, hrun, hend⟩ := hmet.times_out hc (by rw [hst]; rfl) hlate
    rw [receiveVerdict_of_late hlate]
    exact ⟨t, hrun, hend.reports_unstored rfl rfl⟩
  · by_cases hb : b = s.cfg.header
    · subst hb
      obtain ⟨u, hrun, hmet', htook⟩ := State.takes_header hc hst hcsum hft hmet hg
      exact htook.reaches_verdict hc hg hmet' hrun
    · obtain ⟨t, hrun, hend⟩ := hmet.ends_by_wrongHeader hc hst hft hg hb
      rw [receiveVerdict_wrongHeader hg hb]
      exact ⟨t, hrun, hend.reports_unstored rfl rfl⟩

end Sys2Proof.Machine
end

section
/-! How long a receive can go on: a bound on its remaining ticks that every tick lowers (R216). -/

namespace Sys2Proof.Machine

/-- The block is in a receive whose byte wait has not run out. -/
structure State.Receiving (s : State) : Prop where
  legal : s.cfg.wf
  stage : (s.st.reading = true ∧ s.byteTimer < s.cfg.byteTimeout) ∨ s.st = .validate

/-- How many ticks a receive can take at most before its last one. A byte wait can take `byteTimeout` ticks, and payload
bytes are taken up to the deadline only, so that of all the waits in ReadPayload and ReadChecksum just the last one can
reach beyond it (R133, R134). -/
def State.ticksLeft (s : State) : Nat :=
  match s.st with
  | .awaitHeader => 3 * s.cfg.byteTimeout + s.cfg.frameDeadline - s.byteTimer
  | .readLength => 2 * s.cfg.byteTimeout + s.cfg.frameDeadline - s.byteTimer
  | .readPayload =>
    if s.frameTimer ≤ s.cfg.frameDeadline then s.cfg.byteTimeout + s.cfg.frameDeadline - s.frameTimer
    else s.cfg.byteTimeout - s.byteTimer
  | .readChecksum => s.cfg.byteTimeout - s.byteTimer
  | .idle | .validate | .done | .failed | .txHeader | .txLength | .txPayload | .txChecksum => 0

theorem State.ticksLeft_awaitHeader {s : State} (h : s.st = .awaitHeader) :
    s.ticksLeft = 3 * s.cfg.byteTimeout + s.cfg.frameDeadline - s.byteTimer := by
  rw [State.ticksLeft, h]

theorem State.ticksLeft_readLength {s : State} (h : s.st = .readLength) :
    s.ticksLeft = 2 * s.cfg.byteTimeout + s.cfg.frameDeadline - s.byteTimer := by
  rw [State.ticksLeft, h]

theorem State.ticksLeft_readPayload {s : State} (h : s.st = .readPayload) :
    s.ticksLeft = if s.frameTimer ≤ s.cfg.frameDeadline then s.cfg.byteTimeout + s.cfg.frameDeadline - s.frameTimer
      else s.cfg.byteTimeout - s.byteTimer := by
  rw [State.ticksLeft, h]

theorem State.ticksLeft_readChecksum {s : State} (h : s.st = .readChecksum) :
    s.ticksLeft = s.cfg.byteTimeout - s.byteTimer := by
  rw [State.ticksLeft, h]

theorem State.ticksLeft_validate {s : State} (h : s.st = .validate) : s.ticksLeft = 0 := by
  rw [State.ticksLeft, h]

theorem State.Receiving.not_resting {s : State} (h : s.Receiving) : s.st.resting = false := by
  rcases h.stage with ⟨hread, -⟩ | hst
  · exact St.not_resting_of_reading hread
  · rw [hst]; rfl

theorem State.Receiving.not_sending {s : State} (h : s.Receiving) : s.st.sending = false := by
  rcases h.stage with ⟨hread, -⟩ | hst
  · rcases St.of_reading hread with hst | hst | hst | hst <;> rw [hst] <;> rfl
  · rw [hst]; rfl

theorem State.Receiving.byteTimer_lt {s : State} (h : s.Receiving) (hread : s.st.reading = true) :
    s.byteTimer < s.cfg.byteTimeout := by
  rcases h.stage with ⟨-, hbyte⟩ | hst
  · exact hbyte
  · rw [hst] at hread; cases hread

/-- A saturated frame timer is past the deadline, and one up to the deadline is not saturated (R6, R20). -/
theorem satTimer_cases {c : Config} (hc : c.wf) (t : Nat) :
    (t ≤ c.frameDeadline ∧ satTimer c.timerW t = t) ∨
      (c.frameDeadline < t ∧ c.frameDeadline < satTimer c.timerW t) := by
  obtain ⟨-, -, hwidth⟩ := hc
  unfold satTimer
  omega

/-- An empty tick before the wait has run out leaves fewer ticks; in ReadPayload the frame timer passes the deadline at
most once (R122, R123). -/
theorem State.ticksLeft_lt_of_waited {s t : State} (hc : s.cfg.wf) (hread : s.st.reading = true)
    (hlt : s.byteTimer + 1 < s.cfg.byteTimeout) (hst : t.st = s.st) (hcfg : t.cfg = s.cfg)
    (hbyte : t.byteTimer = s.byteTimer + 1)
    (hframe : s.st = .readPayload → t.frameTimer = satTimer s.cfg.timerW (s.frameTimer + 1)) :
    t.ticksLeft < s.ticksLeft := by
  rcases St.of_reading hread with h | h | h | h
  · rw [State.ticksLeft_awaitHeader (hst.trans h), State.ticksLeft_awaitHeader h, hcfg, hbyte]
    omega
  · rw [State.ticksLeft_readLength (hst.trans h), State.ticksLeft_readLength h, hcfg, hbyte]
    omega
  · rw [State.ticksLeft_readPayload (hst.trans h), State.ticksLeft_readPayload h, hcfg, hbyte, hframe h]
    rcases satTimer_cases hc (s.frameTimer + 1) with ⟨hintime, e⟩ | ⟨hpast, hpast'⟩
    · rw [e, if_pos hintime, if_pos (Nat.le_of_succ_le hintime)]
      omega
    · rw [if_neg (Nat.not_le.mpr hpast')]
      split <;> omega
  · rw [State.ticksLeft_readChecksum (hst.trans h), State.ticksLeft_readChecksum h, hcfg, hbyte]
    omega

/-- `t` ends the receive of `s`, or goes on with it and has fewer ticks left. -/
def State.Advances (s t : State) : Prop :=
  (t.st = .done ∨ t.st = .failed) ∨ (t.Receiving ∧ t.ticksLeft < s.ticksLeft)

/-- Every outcome of the arm of a receive ends it or has fewer ticks left (R122 to R136). -/
theorem State.Receiving.busyArm {s : State} (h : s.Receiving) (d : Drive) : s.Advances (s.busyArm d) := by
  have hc := h.legal
  have ⟨hpositive, _⟩ := hc
  have notSending {p : Prop} (hs : s.st.sending = true) : p := by rw [h.not_sending] at hs; cases hs
  apply State.busyArm_elim (P := s.Advances) d s h.not_resting
  case waitOn =>
    intro hread _ hbyte
    have hbump := bumpTimer_of_waiting hc hbyte
    exact .inr ⟨⟨hc, .inl ⟨hread, hbump ▸ hbyte⟩⟩,
      State.ticksLeft_lt_of_waited hc hread hbyte rfl rfl hbump fun hst => if_pos (.inl hst)⟩
  case header =>
    intro _ _ hst _ _
    have hbyte := h.byteTimer_lt (by rw [hst]; rfl)
    refine .inr ⟨⟨hc, .inl ⟨rfl, hpositive⟩⟩, ?_⟩
    rw [State.ticksLeft_readLength (by rfl), State.ticksLeft_awaitHeader hst]
    dsimp only
    omega
  case length =>
    intro b _ hst _ _
    have hbyte := h.byteTimer_lt (by rw [hst]; rfl)
    rw [State.Advances, State.ticksLeft_readLength hst]
    by_cases hzero : b = 0
    · rw [if_pos hzero]
      refine .inr ⟨⟨hc, .inl ⟨rfl, hpositive⟩⟩, ?_⟩
      rw [State.ticksLeft_readChecksum (by rfl)]
      dsimp only
      omega
    · rw [if_neg hzero]
      refine .inr ⟨⟨hc, .inl ⟨rfl, hpositive⟩⟩, ?_⟩
      rw [State.ticksLeft_readPayload (by rfl), if_pos (Nat.zero_le _)]
      dsimp only
      omega
  case payload =>
    intro b _ hst _ hft
    rcases satTimer_cases hc (s.frameTimer + 1) with ⟨hintime, e⟩ | ⟨-, hlate⟩
    case inr => exact absurd hft (Nat.not_le.mpr hlate)
    have hintime' : s.frameTimer ≤ s.cfg.frameDeadline := Nat.le_of_succ_le hintime
    rw [State.Advances, State.ticksLeft_readPayload hst, if_pos hintime', e]
    by_cases hend : s.idx + 1 = s.len
    · rw [if_pos hend]
      refine .inr ⟨⟨hc, .inl ⟨rfl, hpositive⟩⟩, ?_⟩
      rw [State.ticksLeft_readChecksum (by rfl)]
      dsimp only
      omega
    · rw [if_neg hend]
      refine .inr ⟨⟨hc, .inl ⟨rfl, hpositive⟩⟩, ?_⟩
      rw [State.ticksLeft_readPayload (by rfl), if_pos hintime]
      dsimp only
      omega
  case checksum =>
    intro _ _ hst _
    have hbyte := h.byteTimer_lt (by rw [hst]; rfl)
    refine .inr ⟨⟨hc, .inr rfl⟩, ?_⟩
    rw [State.ticksLeft_validate (by rfl), State.ticksLeft_readChecksum hst]
    omega
  case valid => intros; exact .inl (.inl rfl)
  case waitOver | wrongHeader | tooLong | late | invalid => intros; exact .inl (.inr rfl)
  case writeFailed => exact fun hs _ => notSending hs
  case stalled => exact fun hs _ _ => notSending hs
  case sentHeader | sentLength | sentPayload | sentChecksum => exact fun hst _ _ => notSending (by rw [hst]; rfl)

/-- A receive with no reset ahead is over once its ticks are (R216). -/
theorem State.Receiving.ends {k : Nat} {s : State} (h : s.Receiving) (hk : s.ticksLeft < k)
    (hr : noReset k s.script) : ∃ j t, j ≤ k ∧ run j s = .next t ∧ (t.st = .done ∨ t.st = .failed) := by
  induction k generalizing s with
  | zero => exact absurd hk (Nat.not_lt_zero _)
  | succ k ih =>
    obtain ⟨hnow, hlater⟩ := State.drive_of_take (P := fun d => d.rst = false) rfl hr
    have hsampled : s.sampled.Receiving := ⟨h.legal, h.stage⟩
    have hstep := step_busy s hnow h.not_resting
    rcases hsampled.busyArm s.drive with hend | ⟨hgoes, hfewer⟩
    · exact ⟨1, _, by omega, run_succ_of_step hstep 0, hend⟩
    · have hscript : (s.sampled.busyArm s.drive).script = s.script.tail :=
        State.busyArm_script s.drive s.sampled h.not_resting
      have hfewer : (s.sampled.busyArm s.drive).ticksLeft < s.ticksLeft := hfewer
      obtain ⟨j, t, hj, hrun, hend⟩ := ih hgoes (by omega) (hscript ▸ hlater)
      exact ⟨j + 1, t, Nat.succ_le_succ hj, (run_succ_of_step hstep j).trans hrun, hend⟩

end Sys2Proof.Machine
end

section
/-! The receiver's obligations about a whole receive (R139, R216). -/

namespace Sys2Proof.Machine

/-- Settles O39: an accepted RECV waits for its header, and what it meets is the met stream. -/
theorem receiveFollowsItsVerdict : Obligations.ReceiveFollowsItsVerdict := by
  intro n s s1 hc hready hn hrecv hloss v bytes
  obtain ⟨hcfg, hbuf, hst, hcsum, hcap, hbyte, hframe⟩ := exec_recv_awaits hready hn hrecv
  have hmet : s1.Meets (metStream 0 s1.rxStream s1.script) := ⟨hbyte, hloss, rfl⟩
  obtain ⟨t, ⟨hrun, hbusy⟩, hreports⟩ :=
    State.receive_reaches_verdict (hcfg ▸ hc) hst hcsum (hframe ▸ Nat.two_pow_pos _) hmet
  rw [hcfg, hcap] at hrun hbusy hreports
  rw [metStream_bytes] at hreports
  obtain ⟨hend, hstatus, hres, hleft, hentries⟩ := hreports
  exact ⟨hbusy, t, hrun, hend, hstatus, hres, hleft, hbuf ▸ hentries⟩

/-- Settles O40: an accepted RECV has at most `3 * byteTimeout + frameDeadline` ticks before its last one. -/
theorem receiveEndsInTime : Obligations.ReceiveEndsInTime := by
  intro n s s1 hc hready hn hrecv hr
  obtain ⟨hcfg, -, hst, -, -, hbyte, -⟩ := exec_recv_awaits hready hn hrecv
  have ⟨hpositive, _⟩ := hc
  have hreceiving : s1.Receiving := ⟨hcfg ▸ hc, .inl ⟨by rw [hst]; rfl, by rw [hbyte, hcfg]; exact hpositive⟩⟩
  refine hreceiving.ends ?_ hr
  rw [State.ticksLeft_awaitHeader hst, hcfg]
  omega

end Sys2Proof.Machine
end

section
/-! Ticks of a send one answer at a time, and the send to a Transport that takes every byte (R151, R156, R158). -/

namespace Sys2Proof.Machine

/-! ## The three answers to an offered byte (R151) -/

/-- `tx_err` ends the send, whatever `tx_ready` says (R151). -/
theorem step_writeFailed {s : State} (hr : s.drive.rst = false) (hsend : s.st.sending = true)
    (herr : s.drive.txErr = true) : step s = .next (s.sampled.fail .transportWriteFailed) := by
  rw [step_sends s hr hsend, herr]
  rfl

/-- With no answer the same byte is offered again (R151). -/
theorem step_unanswered {s : State} (hr : s.drive.rst = false) (hsend : s.st.sending = true)
    (herr : s.drive.txErr = false) (hready : s.drive.txReady = false) : step s = .next s.sampled := by
  rw [step_sends s hr hsend, herr, hready]
  rfl

/-- The drive of a tick in which the Transport takes the byte it is offered. -/
abbrev Drive.TakesByte (d : Drive) : Prop := d.rst = false ∧ d.txReady = true ∧ d.txErr = false

/-- A byte taken is the one on `tx_data`; then the state's own rule applies (R151). -/
theorem step_byteTaken {s : State} (hsend : s.st.sending = true) (hd : s.drive.TakesByte) :
    step s = .next (s.sampled.sendByte s.txData).sentArm := by
  obtain ⟨hr, hready, herr⟩ := hd
  rw [step_sends s hr hsend, herr, hready]
  rfl

/-- One tick of a Transport that takes every byte. -/
theorem takesAll_succ {k : Nat} {s : State} (h : takesAll (k + 1) s.script) :
    s.drive.TakesByte ∧ takesAll k s.script.tail := by
  obtain ⟨hlen, hall⟩ := h
  unfold State.drive
  cases hs : s.script with
  | nil => simp [hs] at hlen
  | cons d ds =>
    rw [hs, List.take_succ_cons, List.forall_mem_cons] at hall
    rw [hs, List.length_cons] at hlen
    obtain ⟨hd, hds⟩ := hall
    exact ⟨hd, Nat.le_of_succ_le_succ hlen, hds⟩

/-! ## What a byte taken leads to (R152 to R155) -/

/-- The state's own rule leaves the coming ticks' inputs alone. -/
theorem State.sentArm_script (s : State) : s.sentArm.script = s.script := by
  unfold State.sentArm
  cases s.st <;> rfl

/-- Only the checksum byte ends a send (R152 to R155). -/
theorem State.sentArm_sending {s : State} (hsend : s.st.sending = true) (hst : s.st ≠ .txChecksum) :
    s.sentArm.st.sending = true := by
  rcases St.of_sending hsend with h | h | h | h
  · rw [s.sentArm_txHeader h]; rfl
  · rw [s.sentArm_txLength h]; rfl
  · rw [s.sentArm_txPayload h, State.payloadSent, apply_ite St.sending]
    exact ite_self _
  · exact absurd h hst

/-- The checksum byte is the last of the frame. -/
theorem State.Sending.txChecksum_iff {n : Byte} {m : Nat} {s u : State} (h : s.Sending n m u) :
    u.st = .txChecksum ↔ m = n.toNat + 2 := by
  rcases h.place with ⟨hst, hm, -⟩ | ⟨hst, hm, -⟩ | ⟨hst, hm, hlt⟩ | ⟨hst, hm⟩
  · exact iff_of_false (by rw [hst]; decide) (by omega)
  · exact iff_of_false (by rw [hst]; decide) (by omega)
  · exact iff_of_false (by rw [hst]; decide) (by omega)
  · exact iff_of_true hst hm

/-- The environment's part of a tick hands over no byte of a send. -/
theorem State.Sending.sampled {n : Byte} {m : Nat} {s u : State} (h : s.Sending n m u) : s.Sending n m u.sampled :=
  ⟨h.cfg, h.buf, h.len, h.sent, h.csum, h.place⟩

/-- A byte taken before the checksum byte is one more byte of the frame, and the send goes on (R152 to R154). -/
theorem State.Sending.step_taken {n : Byte} {m : Nat} {s u : State} (hn : 1 ≤ n.toNat) (h : s.Sending n m u)
    (hm : m < n.toNat + 2) (hd : u.drive.TakesByte) :
    ∃ t, Machine.step u = .next t ∧ t.script = u.script.tail ∧ s.Sending n (m + 1) t := by
  refine ⟨_, step_byteTaken h.sending hd, State.sentArm_script _, ?_⟩
  rcases h.sampled.sentArm hn with hnext | hover
  · exact hnext
  · have hst : u.st ≠ .txChecksum := mt h.txChecksum_iff.mp (by omega)
    have hgoes := St.not_resting_of_sending
      (State.sentArm_sending (s := u.sampled.sendByte u.txData) h.sending hst)
    exact absurd (hgoes.symm.trans hover.resting) Bool.false_ne_true

/-- The checksum byte taken ends the send in Done with the whole frame handed over (R155, R156). -/
theorem State.Sending.step_last {n : Byte} {s u : State} (h : s.Sending n (n.toNat + 2) u) (hd : u.drive.TakesByte) :
    ∃ t, Machine.step u = .next t ∧ t.st = .done ∧ t.status = .ok ∧ t.resLen = n ∧
      t.txStream = s.txStream ++ s.sendFrame n ∧ t.buf = s.buf := by
  refine ⟨_, step_byteTaken h.sending hd, ?_⟩
  rw [State.sentArm_txChecksum _ (by exact h.txChecksum_iff.mpr rfl)]
  refine ⟨rfl, rfl, h.len, ?_, h.buf⟩
  have hwhole := h.take_succ
  rw [List.take_of_length_le (by rw [State.sendFrame_length])] at hwhole
  change u.txStream ++ [u.txData] = _
  rw [h.sent, List.append_assoc, ← hwhole]

/-- To a Transport that takes every byte, a send hands over one byte of its frame a tick (R156, R158). -/
theorem State.Sending.run_ready {n : Byte} {m k r : Nat} {s u : State} (hn : 1 ≤ n.toNat) (h : s.Sending n m u)
    (hk : m + k ≤ n.toNat + 2) (htakes : takesAll (k + r) u.script) :
    ∃ t, run k u = .next t ∧ takesAll r t.script ∧ s.Sending n (m + k) t := by
  induction k generalizing m u with
  | zero => exact ⟨u, rfl, by rwa [Nat.zero_add] at htakes, h⟩
  | succ k ih =>
    rw [Nat.add_right_comm] at htakes
    obtain ⟨hd, hlater⟩ := takesAll_succ htakes
    obtain ⟨v, hstep, hscript, hv⟩ := h.step_taken hn (by omega) hd
    obtain ⟨t, hrun, hrest, ht⟩ := ih hv (by omega) (hscript ▸ hlater)
    exact ⟨t, (run_succ_of_step hstep k).trans hrun, hrest, by rwa [Nat.add_right_comm] at ht⟩

/-! ## Every send -/

/-- The encoder answers exactly for the lengths that SEND accepts, with the frame of the send (R86, R106, R107). -/
theorem sendFrame_of_encodeFrame {n : BitVec 9} {s : State} {f : List Byte}
    (h : encodeFrame s.cfg.header (bufBytes s.buf n.toNat) n.toNat = .ok f) :
    (1 ≤ n.toNat ∧ n.toNat ≤ 255) ∧ f = s.sendFrame (sendLength n) := by
  by_cases hn : 1 ≤ n.toNat ∧ n.toNat ≤ 255
  · have hlen := sendLength_toNat hn.2
    rw [← hlen, encodeFrame_bufBytes s _ (hlen.symm ▸ hn.1), Except.ok.injEq] at h
    exact ⟨hn, h.symm⟩
  · rw [encodeFrame_error _ _ (by omega)] at h
    cases h

/-- A send and its end are never in Idle, nor in a state of a receive (R92). -/
theorem St.apart_of_send {x : St} (h : x.sending = true ∨ x = .done ∨ x = .failed) :
    x ≠ .idle ∧ x.reading = false ∧ x ≠ .validate := by
  revert h; cases x <;> decide

end Sys2Proof.Machine
end

section
/-! The obligations about the sender. -/

namespace Sys2Proof.Machine

/-- Settles O45: a busy run of a send is in the send, or at its end. -/
theorem sentBytesFollowTheEncodedFrame : Obligations.SentBytesFollowTheEncodedFrame := by
  intro n s s1 t f k hready hsend hf hr hbusy hrun
  obtain ⟨⟨hn, hn'⟩, rfl⟩ := sendFrame_of_encodeFrame hf
  have hstart := State.Sending.of_accepted hready hn hn' hsend
  rcases hstart.busyRun (sendLength_toNat hn' ▸ hn) hr ⟨hrun, hbusy⟩ with ⟨m, hmid⟩ | hover
  · obtain ⟨hidle, hread, hvalidate⟩ := St.apart_of_send (.inl hmid.sending)
    have hgoes := St.not_resting_of_sending hmid.sending
    refine ⟨hmid.buf, hidle, hread, hvalidate, m, hmid.lt_length.le, hmid.sent, fun hst => ?done,
      fun _ => hmid.lt_length, fun _ => hmid.lt_length⟩
    case done =>
      rw [hst] at hgoes
      cases hgoes
  · have hrests {p : Prop} (h : t.busy = true) : p :=
      absurd (h.symm.trans (t.busy_eq_false_iff.mpr hover.resting)) (by decide)
    obtain ⟨hbuf, hresult⟩ := hover
    rcases hresult with ⟨hst, hsent⟩ | ⟨hst, m, hm, hsent⟩
    · obtain ⟨hidle, hread, hvalidate⟩ := St.apart_of_send (.inr (.inl hst))
      refine ⟨hbuf, hidle, hread, hvalidate, _, le_rfl, ?_, fun _ => rfl,
        fun hfailed => absurd (hst.symm.trans hfailed) (by decide), hrests⟩
      rw [hsent, List.take_length]
    · obtain ⟨hidle, hread, hvalidate⟩ := St.apart_of_send (.inr (.inr hst))
      exact ⟨hbuf, hidle, hread, hvalidate, m, hm.le, hsent,
        fun hdone => absurd (hst.symm.trans hdone) (by decide), fun _ => hm, hrests⟩

/-- Settles O44: one byte of the frame a tick, and the checksum byte ends the send. -/
theorem sendToAReadyTransport : Obligations.SendToAReadyTransport := by
  intro n s s1 f hready hsend hf htakes
  obtain ⟨⟨hn, hn'⟩, rfl⟩ := sendFrame_of_encodeFrame hf
  have hlen := sendLength_toNat hn'
  have hpos : 1 ≤ (sendLength n).toNat := hlen.symm ▸ hn
  have hstart := State.Sending.of_accepted hready hn hn' hsend
  rw [← hlen] at htakes ⊢
  constructor
  · intro j u hj hrun
    obtain ⟨t, hrun', -, hmid⟩ := hstart.run_ready (k := j) (r := (sendLength n).toNat + 3 - j) hpos (by omega)
      (by rwa [Nat.add_sub_cancel' hj.le])
    obtain rfl : u = t := Host.Outcome.next.inj (hrun.symm.trans hrun')
    rw [Nat.zero_add] at hmid
    exact ⟨congrArg not (St.not_resting_of_sending hmid.sending), hmid.sent⟩
  · obtain ⟨u, hrun, hrest, hmid⟩ := hstart.run_ready (k := (sendLength n).toNat + 2) (r := 1) hpos (by omega) htakes
    obtain ⟨hd, -⟩ := takesAll_succ hrest
    rw [Nat.zero_add] at hmid
    obtain ⟨t, hstep, hst, hstatus, hres, hsent, hbuf⟩ := hmid.step_last hd
    refine ⟨t, ?_, hst, hstatus, congrArg BitVec.toNat hres, hsent, hbuf⟩
    exact (run_add_of_run hrun 1).trans (run_succ_of_step hstep 0)

/-- Settles O42: the three answers, and after a byte taken the rule of each state. -/
theorem sendingTick : Obligations.SendingTick := by
  intro s hr hsend
  refine ⟨step_writeFailed hr hsend, step_unanswered hr hsend, fun herr hready => ?taken⟩
  have hstep := step_byteTaken hsend ⟨hr, hready, herr⟩
  refine ⟨fun hst => ?header, fun hst => ?length, fun hst hlt => ?payload, fun hst => ?checksum⟩
  case header =>
    rw [hstep, s.txData_of_txHeader hst, State.sentArm_txHeader _ (by exact hst)]
    rfl
  case length =>
    rw [hstep, s.txData_of_txLength hst, State.sentArm_txLength _ (by exact hst)]
    rfl
  case payload =>
    have hnext : BitVec.ofNat 8 (s.idx.toNat + 1) = s.idx + 1 := (BitVec8_succ s.idx).symm
    have hend : s.idx.toNat + 1 = s.len.toNat ↔ s.idx + 1 = s.len := (BitVec8_succ_eq_iff _ _ hlt).symm
    simp only [hnext, hend]
    rw [hstep, s.txData_of_txPayload hst, State.sentArm_txPayload _ (by exact hst)]
    rfl
  case checksum =>
    rw [hstep, s.txData_of_txChecksum hst, State.sentArm_txChecksum _ (by exact hst)]
    rfl

end Sys2Proof.Machine
end

section
/-! Lemmas for the failures: which failure a busy tick has raised when it ends in Failed, and which it must raise. -/

namespace Sys2Proof.Machine

/-! ## The codes of the failures (R68, R170 to R175) -/

/-- The status tells the failures apart (R177). -/
theorem Failure.status_inj {e e' : Failure} : e.status = e'.status ↔ e = e' := by
  cases e <;> cases e' <;> decide

/-! ## The table of failures (R176) -/

/-- No arm fails but for a reason in the table. -/
theorem State.mayRaise_of_busyArm_failed (d : Drive) (s : State) (h : s.st.resting = false) :
    (s.busyArm d).st = .failed →
      ∃ e : Failure, (s.busyArm d).status = e.status ∧ s.mayRaise s.rxStream.head? d.txErr e := by
  apply State.busyArm_elim
    (P := fun t => t.st = .failed → ∃ e : Failure, t.status = e.status ∧ s.mayRaise s.rxStream.head? d.txErr e) d s h
  case waitOver => exact fun hread hrx hover _ => ⟨.timeout, rfl, .inl ⟨hread, by rw [hrx]; rfl, hover⟩⟩
  case wrongHeader => exact fun b _ hst hrx hne _ => ⟨.headerMismatch, rfl, hst, b, by rw [hrx]; rfl, hne⟩
  case tooLong => exact fun b _ hst hrx hlong _ => ⟨.lengthInvalid, rfl, hst, b, by rw [hrx]; rfl, hlong⟩
  case late => exact fun _ _ hst hrx hlate _ => ⟨.timeout, rfl, .inr ⟨hst, by rw [hrx]; nofun, hlate⟩⟩
  case invalid => exact fun hst hne _ => ⟨.checksumMismatch, rfl, hst, hne⟩
  case writeFailed => exact fun hsend herr _ => ⟨.transportWriteFailed, rfl, hsend, herr⟩
  case waitOn => intro hread _ _ hfailed; rw [hfailed] at hread; cases hread
  case stalled => intro hsend _ _ hfailed; rw [hfailed] at hsend; cases hsend
  case length | payload | sentPayload => intros; split at * <;> contradiction
  case header | checksum | valid | sentHeader | sentLength | sentChecksum => intros; contradiction

/-- A tick in which the table names a failure ends by failure entry with that failure; what else the tick has done
stands in `u` (R178). -/
theorem step_fails_of_mayRaise {s : State} {e : Failure} (hr : s.drive.rst = false)
    (hraise : s.mayRaise s.arrive.rxStream.head? s.drive.txErr e) : ∃ u : State, step s = .next (u.fail e) := by
  cases e with
  | invalidLength => exact hraise.elim
  | headerMismatch =>
    obtain ⟨hst, b, hb, hne⟩ := hraise
    obtain ⟨rest, hrx⟩ := List.head?_eq_some_iff.mp hb
    rw [step_takes_byte s b rest hr (by rw [hst]; rfl) hrx, State.byteArm_awaitHeader _ _ (by exact hst)]
    rcases State.awaitHeaderByte_cases b ({ s.sampled with rxStream := rest } : State) with ⟨heq, -⟩ | ⟨-, e⟩
    · exact absurd heq hne
    · exact ⟨_, congrArg Host.Outcome.next e⟩
  | lengthInvalid =>
    obtain ⟨hst, b, hb, hlong⟩ := hraise
    obtain ⟨rest, hrx⟩ := List.head?_eq_some_iff.mp hb
    rw [step_takes_byte s b rest hr (by rw [hst]; rfl) hrx, State.byteArm_readLength _ _ (by exact hst)]
    rcases State.readLengthByte_cases b ({ s.sampled with rxStream := rest } : State) with ⟨-, e⟩ | ⟨hfits, -⟩
    · exact ⟨_, congrArg Host.Outcome.next e⟩
    · exact absurd hlong (Nat.not_lt.mpr hfits)
  | timeout =>
    rcases hraise with ⟨hread, hempty, hover⟩ | ⟨hst, hsome, hlate⟩
    · obtain ⟨ft, hstep⟩ := step_timesOut hread hr (List.head?_eq_none_iff.mp hempty) hover
      exact ⟨_, hstep⟩
    · obtain ⟨b, hb⟩ := Option.ne_none_iff_exists'.mp hsome
      obtain ⟨rest, hrx⟩ := List.head?_eq_some_iff.mp hb
      rw [step_takes_byte s b rest hr (by rw [hst]; rfl) hrx, State.byteArm_readPayload _ _ (by exact hst)]
      rcases State.readPayloadByte_cases b ({ s.sampled with rxStream := rest } : State) with ⟨-, e⟩ | ⟨hintime, -⟩
      · exact ⟨_, congrArg Host.Outcome.next e⟩
      · exact absurd hlate (Nat.not_lt.mpr hintime)
  | checksumMismatch =>
    obtain ⟨hst, hne⟩ := hraise
    rw [step_validate s hr hst]
    rcases State.validateArm_cases s.sampled with ⟨heq, -⟩ | ⟨-, e⟩
    · exact absurd heq hne
    · exact ⟨_, congrArg Host.Outcome.next e⟩
  | transportWriteFailed =>
    obtain ⟨hsend, herr⟩ := hraise
    exact ⟨_, step_writeFailed hr hsend herr⟩

end Sys2Proof.Machine
end

section
/-! The obligations about failures. -/

namespace Sys2Proof.Machine

/-! ## The sources of failures (R176) -/

/-- Settles O47: a failed tick has raised a failure of the table, and the status says which; a failure of the table is
raised. -/
theorem failuresComeFromTheirSources : Obligations.FailuresComeFromTheirSources := by
  intro s t e hr hbusy hstep
  constructor
  case mp =>
    rintro ⟨hfailed, hstatus⟩
    have hrest : s.st.resting = false := by simpa [State.busy_eq] using hbusy
    rw [step_unique hstep (step_busy s hr hrest)] at hfailed hstatus
    obtain ⟨e', hstatus', hraise⟩ := State.mayRaise_of_busyArm_failed s.drive s.sampled hrest hfailed
    obtain rfl : e = e' := Failure.status_inj.mp (hstatus.symm.trans hstatus')
    exact hraise
  case mpr =>
    intro hraise
    obtain ⟨u, hfails⟩ := step_fails_of_mayRaise hr hraise
    obtain rfl : t = u.fail e := step_unique hstep hfails
    exact ⟨u.fail_st e, u.fail_status e⟩

/-! ## Failure entry (R178) -/

/-- Settles O48: failure entry is an update of three registers, and a block in Failed rests. -/
theorem failureEntryWritesThreeRegisters : Obligations.FailureEntryWritesThreeRegisters := by
  intro s
  have hentry (e : Failure) : s.fail e = { s with st := .failed, status := e.status, resLen := 0 } := rfl
  have hrests (e : Failure) : (s.fail e).st.resting = true := congrArg St.resting (s.fail_st e)
  refine ⟨fun e => ⟨hentry e, (s.fail e).busy_eq_false_iff.mpr (hrests e), hrests e, rfl, rfl⟩, ?codes⟩
  exact ⟨rfl, rfl, rfl, rfl, rfl, rfl⟩

end Sys2Proof.Machine
end

section
/-! Lemmas for reset: what a reset tick leaves of any state, and what a run of them leaves of the block once reset. -/

namespace Sys2Proof.Machine

/-! ## The coming ticks of a script -/

/-- What holds of the next `k + 1` drives of a script that long holds of the coming tick's and of the `k` after it. -/
theorem State.drive_of_take_of_le {P : Drive → Prop} {s : State} {k : Nat} (hlen : k + 1 ≤ s.script.length)
    (h : ∀ d ∈ s.script.take (k + 1), P d) :
    P s.drive ∧ k ≤ s.script.tail.length ∧ ∀ d ∈ s.script.tail.take k, P d := by
  unfold State.drive
  cases hs : s.script with
  | nil => simp [hs] at hlen
  | cons d ds =>
    rw [hs, List.length_cons] at hlen
    rw [hs, List.take_succ_cons, List.forall_mem_cons] at h
    obtain ⟨hd, hds⟩ := h
    exact ⟨hd, Nat.le_of_succ_le_succ hlen, hds⟩

/-! ## One reset tick (R200) -/

/-- Every register holds its reset value (R37). -/
def State.IsReset (s : State) : Prop := s.resetRegisters = s

theorem State.IsReset.st_eq {s : State} (h : s.IsReset) : s.st = .idle := by
  rw [← h, State.resetRegisters_st]

/-- The receive stream, the host's sample and the script are no registers of the block. -/
theorem State.IsReset.withEnvironment {s : State} (h : s.IsReset) (rx : List Byte) (r : Byte) (ds : List Drive) :
    ({ s with rxStream := rx, hostRdata := r, script := ds } : State).IsReset := by
  rw [← h]
  rfl

/-- A reset tick leaves the registers reset, and the buffer, the configuration and the rest of the script as they were
(R200). -/
theorem step_reset_isReset {s : State} (hr : s.drive.rst = true) :
    ∃ t, step s = .next t ∧ t.IsReset ∧ t.buf = s.buf ∧ t.cfg = s.cfg ∧ t.script = s.script.tail := by
  refine ⟨_, step_reset s hr, ?_⟩
  rw [State.resetHandshakes_eq]
  exact ⟨rfl, rfl, rfl, rfl⟩

/-- A block that is already reset offers no byte, so a further reset tick also leaves the transmit stream alone
(R201). -/
theorem State.IsReset.step_reset {s : State} (h : s.IsReset) (hr : s.drive.rst = true) :
    ∃ rx r, step s = .next { s with rxStream := rx, hostRdata := r, script := s.script.tail } := by
  have hvalid : s.arrive.txValid = false := congrArg St.sending h.st_eq
  have hstep := Machine.step_reset s hr
  rw [State.resetHandshakes_eq, hvalid] at hstep
  exact ⟨_, _, hstep.trans (congrArg Host.Outcome.next (h.withEnvironment _ _ _))⟩

/-! ## Further reset ticks (R201) -/

/-- Any number of reset ticks of a block that is already reset changes only the receive stream, the host's sample and
the script (R201). -/
theorem State.IsReset.run_resets {k : Nat} {s t : State} (h : s.IsReset) (hlen : k ≤ s.script.length)
    (hr : ∀ d ∈ s.script.take k, d.rst = true) (hrun : run k s = .next t) :
    t = { s with rxStream := t.rxStream, hostRdata := t.hostRdata, script := t.script } := by
  induction k generalizing s with
  | zero =>
    obtain rfl : s = t := Host.Outcome.next.inj hrun
    rfl
  | succ k ih =>
    obtain ⟨hnow, hlen', hlater⟩ := State.drive_of_take_of_le hlen hr
    obtain ⟨rx, r, hstep⟩ := h.step_reset hnow
    rw [run_succ_of_step hstep] at hrun
    exact ih (s := { s with rxStream := rx, hostRdata := r, script := s.script.tail }) (h.withEnvironment _ _ _) hlen'
      hlater hrun

end Sys2Proof.Machine
end

section
/-! The obligations about reset. -/

namespace Sys2Proof.Machine

/-- Settles O53: the first tick resets the registers, and the others find them reset. -/
theorem consecutiveResets : Obligations.ConsecutiveResets := by
  intro k s t u hlen hr hstep hrun
  obtain ⟨hnow, hlen', hlater⟩ := State.drive_of_take_of_le hlen hr
  obtain ⟨u', hstep', hreset, -, -, hscript⟩ := step_reset_isReset hnow
  obtain rfl : u = u' := step_unique hstep hstep'
  rw [← hscript] at hlen' hlater
  rw [run_succ_of_step hstep] at hrun
  exact hreset.run_resets hlen' hlater hrun

/-- Settles O51: each register of a reset state is read off its reset value, and the outputs are those of Idle. -/
theorem resetTick : Obligations.ResetTick := by
  intro s hr
  obtain ⟨t, hstep, hreset, hbuf, hcfg, -⟩ := step_reset_isReset hr
  refine ⟨t, hstep, ?_⟩
  rw [← hbuf, ← hcfg, ← hreset]
  exact ⟨rfl, rfl, rfl, rfl, rfl, rfl, rfl, rfl, rfl, rfl, rfl, rfl, rfl, rfl, rfl, rfl, rfl⟩

end Sys2Proof.Machine
end
